-- ==== Sys2Proof/Word.lean ====
section
/-! DEFINITION. The words that cross the boundary of the part: octets on the control ports and the scan bus, 16-bit samples on the highways, the 32-bit timestamp. -/

namespace Sys2Proof

/-- An octet of a control frame, a scan frame or an event record (R171). -/
abbrev Octet := BitVec 8

/-- A 16-bit two's complement highway sample (R127). -/
abbrev Sample := BitVec 16

/-- The 32-bit count of ticks that HI keeps (R131). -/
abbrev Timestamp := BitVec 32

end Sys2Proof
end

