-- ==== Sys2Proof/Config.lean ====
section
/-! DEFINITION. The capacities and limits that the manual fixes. The manual leaves no value of a step open, so there is no free value here; the orders it leaves open are orders of the command queue (log 1). -/

namespace Sys2Proof.Config

/-- Records that one port's event queue holds (R165). -/
def eventQueueCapacity : Nat := 64

/-- The end of the lost count (R165) and of every argument that is capped at one octet. -/
def octetMax : Nat := 255

/-- Data octets of a request that a port keeps (R159). -/
def requestDataKept : Nat := 80

/-- Digits that one dialling stage walks (R93). -/
def digitLimit : Nat := 24

/-- Entries of the watch ring (R184). -/
def watchRingCapacity : Nat := 16

/-- The end of the duration field of a watch entry (R184). -/
def watchDurationMax : Nat := 4095

/-- The value at which decoder timers, statistics and saturated-sample counts stop (R17, R44, R183). -/
def count16Max : Nat := 65535

/-- The pulse count at which a digit's count stops (R28). -/
def pulseCountMax : Nat := 15

/-- Missed frames in a row that make a scan loss (R4). -/
def scanLossMisses : Nat := 8

/-- The least and the greatest period estimate (R46). -/
def periodMin : Nat := 960

def periodMax : Nat := 2560

/-- Samples of one millisecond (section 5.2 of the scope file). -/
def samplesPerMs : Nat := 8

/-- The marker octet of a good scan frame (R1). -/
def scanMarker : Octet := 0x5C

end Sys2Proof.Config
end

