-- ==== Sys2Proof/Syntax.lean ====
section
/-! DEFINITION. The commands of the part: one constructor for every row of spec/opcode_table.json, with the row's operands. -/

namespace Sys2Proof

/-- The three control ports (section 1.2 of the scope file). -/
inductive PortId
  | a
  | b
  | m
  deriving DecidableEq, Repr

/-- One of the 32 subscriber lines. -/
abbrev LineId := Fin 32

/-- One step of the part. Rows that report work the part does on its own (a seizure, a grant, the end of a phase)
are steps like the others: the place of the row in the queue is the moment at which that work is done (log 1).
A row of the command set carries the issuing port, the target octet and the L data octets of its request (R158). -/
inductive Instr
  /-- POWER_ON_RESET (R130): the reset pin is asserted and released. -/
  | powerOnReset
  /-- FRAME_BOUNDARY (R131): a frame sync, with the S-highway downstream and L-highway upstream samples of the frame it ends. -/
  | frameBoundary (down up : Vector Sample 32)
  /-- TICK_BOUNDARY (R131, R132): the frame sync at which the frame counter becomes 0. -/
  | tickBoundary (down up : Vector Sample 32)
  /-- GOOD_FRAME (R1): the concentrator answers the scan request with these 65 octets. -/
  | goodFrame (octets : Vector Octet 65)
  /-- MISSED_FRAME (R3): the tick's scan frame is unanswered or has a wrong marker. -/
  | missedFrame
  /-- SCAN_LOSS (R4). -/
  | scanLoss
  /-- DEBOUNCED_STATE_CHANGE (R11). -/
  | debouncedStateChange (line : LineId)
  /-- SEIZURE (R20). -/
  | seizure (line : LineId)
  /-- MAKE_CONFIRMED (R26). -/
  | makeConfirmed (line : LineId)
  /-- DIGIT_COMPLETE (R34). -/
  | digitComplete (line : LineId)
  /-- RELEASE (R39). -/
  | release (line : LineId)
  /-- DIAL_TIMEOUT (R102). -/
  | dialTimeout (line : LineId)
  /-- AUTO_PROCEED_EXPIRY (R110). -/
  | autoProceedExpiry (line : LineId)
  /-- GENERATOR_GRANT (R115): the arbiter's work at a frame boundary. -/
  | generatorGrant
  /-- ON_PHASE_END (R117). -/
  | onPhaseEnd (line : LineId)
  /-- OFF_PHASE_END (R119). -/
  | offPhaseEnd (line : LineId)
  /-- PATTERN_SEGMENT_ADVANCE (R181). -/
  | patternSegmentAdvance
  /-- PATTERN_DONE (R181). -/
  | patternDone
  /-- FRAME_BEGIN (R158): the master of the port lowers select. -/
  | frameBegin (port : PortId)
  /-- FRAME_END (R160): the master of the port raises select. -/
  | frameEnd (port : PortId)
  /-- UNKNOWN_COMMAND (R161): a request whose command octet is `code`. -/
  | unknownCommand (port : PortId) (code target : Octet) (data : List Octet)
  /-- NOP (R162). -/
  | nop (port : PortId) (target : Octet) (data : List Octet)
  /-- READ_LINE (R163). -/
  | readLine (port : PortId) (target : Octet) (data : List Octet)
  /-- PEEK_QUEUE (R84). -/
  | peekQueue (port : PortId) (target : Octet) (data : List Octet)
  /-- READ_EVENTS (R167). -/
  | readEvents (port : PortId) (target : Octet) (data : List Octet)
  /-- READ_PROFILE (R62). -/
  | readProfile (port : PortId) (target : Octet) (data : List Octet)
  /-- READ_PLAN (R91). -/
  | readPlan (port : PortId) (target : Octet) (data : List Octet)
  /-- READ_POOL (R164). -/
  | readPool (port : PortId) (target : Octet) (data : List Octet)
  /-- WRITE_PROFILE (R59). -/
  | writeProfile (port : PortId) (target : Octet) (data : List Octet)
  /-- WRITE_PLAN (R90). -/
  | writePlan (port : PortId) (target : Octet) (data : List Octet)
  /-- CLAIM (R146). -/
  | claim (port : PortId) (target : Octet) (data : List Octet)
  /-- RELINQUISH (R147). -/
  | relinquish (port : PortId) (target : Octet) (data : List Octet)
  /-- TAKEOVER of one line (R148). -/
  | takeover (port : PortId) (target : Octet) (data : List Octet)
  /-- TAKEOVER with the target 255 (R149). -/
  | takeoverAll (port : PortId) (data : List Octet)
  /-- ASSIGN (R151). -/
  | assign (port : PortId) (target : Octet) (data : List Octet)
  /-- SET_SERVICE with the data octet 1 (R153). -/
  | setServiceIn (port : PortId) (target : Octet) (data : List Octet)
  /-- SET_SERVICE with the data octet 0 (R153). -/
  | setServiceOut (port : PortId) (target : Octet) (data : List Octet)
  /-- ASSIGN_PROFILE (R66). -/
  | assignProfile (port : PortId) (target : Octet) (data : List Octet)
  /-- PROCEED (R109). -/
  | proceed (port : PortId) (target : Octet) (data : List Octet)
  /-- CUT_THROUGH (R103). -/
  | cutThrough (port : PortId) (target : Octet) (data : List Octet)
  /-- PLAN_RELEASE (R97). -/
  | planRelease (port : PortId) (target : Octet) (data : List Octet)
  /-- PLAN_DISCARD (R99). -/
  | planDiscard (port : PortId) (target : Octet) (data : List Octet)
  /-- FLASH_ACK (R33). -/
  | flashAck (port : PortId) (target : Octet) (data : List Octet)
  /-- PURGE (R79). -/
  | purge (port : PortId) (target : Octet) (data : List Octet)
  /-- LINE_RESET (R155). -/
  | lineReset (port : PortId) (target : Octet) (data : List Octet)
  /-- TEST_ENTER (R178). -/
  | testEnter (port : PortId) (target : Octet) (data : List Octet)
  /-- TEST_EXIT (R179). -/
  | testExit (port : PortId) (target : Octet) (data : List Octet)
  /-- LOAD_PATTERN (R180). -/
  | loadPattern (port : PortId) (target : Octet) (data : List Octet)
  /-- START_PATTERN (R181). -/
  | startPattern (port : PortId) (target : Octet) (data : List Octet)
  /-- ABORT_PATTERN (R182). -/
  | abortPattern (port : PortId) (target : Octet) (data : List Octet)
  /-- WATCH (R184). -/
  | watch (port : PortId) (target : Octet) (data : List Octet)
  /-- READ_WATCH (R184). -/
  | readWatch (port : PortId) (target : Octet) (data : List Octet)
  /-- READ_CHECK (R183). -/
  | readCheck (port : PortId) (target : Octet) (data : List Octet)
  /-- READ_STATS (R185). -/
  | readStats (port : PortId) (target : Octet) (data : List Octet)
  /-- PART_RESET (R186). -/
  | partReset (port : PortId) (target : Octet) (data : List Octet)
  /-- OCTET_TIME (R158): one octet time of the port's frame, with the octet the master drives. -/
  | octetTime (port : PortId) (octet : Octet)
  deriving DecidableEq, Repr

end Sys2Proof
end

