-- ==== Sys2Proof/Decode.lean ====
section
/-! DEFINITION. Decoding. No row of spec/opcode_table.json gives bits, so no word spells a row; the wire form of a request (R158, R173) is written here, with the row that a request spells and the request of a row. -/

namespace Sys2Proof

/-- The command that a word spells by the table's bits. The table gives no row any bits, so no word spells a command. -/
def decodeTableWord (_nbits _w : Nat) : Option Instr := none

/-- The command codes of R173, in the order of the table there. -/
def definedCodes : List Octet :=
  [0x00, 0x01, 0x02, 0x03, 0x04, 0x05, 0x06, 0x10, 0x11, 0x20, 0x21, 0x22, 0x23, 0x24, 0x25, 0x30,
   0x31, 0x32, 0x33, 0x34, 0x35, 0x36, 0x40, 0x41, 0x42, 0x43, 0x44, 0x45, 0x46, 0x47, 0x48, 0x4F]

/-- The row that a request on a port spells: its command octet, its target octet and its data octets (R173). The code
0x22 spells TAKEOVER_ALL when the target is 255 (R149); the code 0x24 spells SET_SERVICE_OUT when the data is the one octet
0, and SET_SERVICE_IN otherwise (R153). A code that is not in the table spells UNKNOWN_COMMAND (R161). -/
def rowOfRequest (p : PortId) (code target : Octet) (data : List Octet) : Instr :=
  match code.toNat with
  | 0x00 => .nop p target data
  | 0x01 => .readLine p target data
  | 0x02 => .peekQueue p target data
  | 0x03 => .readEvents p target data
  | 0x04 => .readProfile p target data
  | 0x05 => .readPlan p target data
  | 0x06 => .readPool p target data
  | 0x10 => .writeProfile p target data
  | 0x11 => .writePlan p target data
  | 0x20 => .claim p target data
  | 0x21 => .relinquish p target data
  | 0x22 => if target = 255 then .takeoverAll p data else .takeover p target data
  | 0x23 => .assign p target data
  | 0x24 => if data = [0] then .setServiceOut p target data else .setServiceIn p target data
  | 0x25 => .assignProfile p target data
  | 0x30 => .proceed p target data
  | 0x31 => .cutThrough p target data
  | 0x32 => .planRelease p target data
  | 0x33 => .planDiscard p target data
  | 0x34 => .flashAck p target data
  | 0x35 => .purge p target data
  | 0x36 => .lineReset p target data
  | 0x40 => .testEnter p target data
  | 0x41 => .testExit p target data
  | 0x42 => .loadPattern p target data
  | 0x43 => .startPattern p target data
  | 0x44 => .abortPattern p target data
  | 0x45 => .watch p target data
  | 0x46 => .readWatch p target data
  | 0x47 => .readCheck p target data
  | 0x48 => .readStats p target data
  | 0x4F => .partReset p target data
  | _ => .unknownCommand p code target data

/-- The request that a row of the command set stands for: its port and the octets code, target, L and data that the
master clocks (R158). A row that is not a command has none. -/
def requestOfRow : Instr → Option (PortId × Octet × Octet × List Octet)
  | .powerOnReset => none
  | .frameBoundary _ _ => none
  | .tickBoundary _ _ => none
  | .goodFrame _ => none
  | .missedFrame => none
  | .scanLoss => none
  | .debouncedStateChange _ => none
  | .seizure _ => none
  | .makeConfirmed _ => none
  | .digitComplete _ => none
  | .release _ => none
  | .dialTimeout _ => none
  | .autoProceedExpiry _ => none
  | .generatorGrant => none
  | .onPhaseEnd _ => none
  | .offPhaseEnd _ => none
  | .patternSegmentAdvance => none
  | .patternDone => none
  | .frameBegin _ => none
  | .frameEnd _ => none
  | .unknownCommand p c t d => some (p, c, t, d)
  | .nop p t d => some (p, 0x00, t, d)
  | .readLine p t d => some (p, 0x01, t, d)
  | .peekQueue p t d => some (p, 0x02, t, d)
  | .readEvents p t d => some (p, 0x03, t, d)
  | .readProfile p t d => some (p, 0x04, t, d)
  | .readPlan p t d => some (p, 0x05, t, d)
  | .readPool p t d => some (p, 0x06, t, d)
  | .writeProfile p t d => some (p, 0x10, t, d)
  | .writePlan p t d => some (p, 0x11, t, d)
  | .claim p t d => some (p, 0x20, t, d)
  | .relinquish p t d => some (p, 0x21, t, d)
  | .takeover p t d => some (p, 0x22, t, d)
  | .takeoverAll p d => some (p, 0x22, 255, d)
  | .assign p t d => some (p, 0x23, t, d)
  | .setServiceIn p t d => some (p, 0x24, t, d)
  | .setServiceOut p t d => some (p, 0x24, t, d)
  | .assignProfile p t d => some (p, 0x25, t, d)
  | .proceed p t d => some (p, 0x30, t, d)
  | .cutThrough p t d => some (p, 0x31, t, d)
  | .planRelease p t d => some (p, 0x32, t, d)
  | .planDiscard p t d => some (p, 0x33, t, d)
  | .flashAck p t d => some (p, 0x34, t, d)
  | .purge p t d => some (p, 0x35, t, d)
  | .lineReset p t d => some (p, 0x36, t, d)
  | .testEnter p t d => some (p, 0x40, t, d)
  | .testExit p t d => some (p, 0x41, t, d)
  | .loadPattern p t d => some (p, 0x42, t, d)
  | .startPattern p t d => some (p, 0x43, t, d)
  | .abortPattern p t d => some (p, 0x44, t, d)
  | .watch p t d => some (p, 0x45, t, d)
  | .readWatch p t d => some (p, 0x46, t, d)
  | .readCheck p t d => some (p, 0x47, t, d)
  | .readStats p t d => some (p, 0x48, t, d)
  | .partReset p t d => some (p, 0x4F, t, d)
  | .octetTime _ _ => none

end Sys2Proof
end

