-- ==== Sys2Proof/Machine/State.lean ====
section
/-! DEFINITION. The state of the part, block by block as the manual names it (section 2 of the scope file), the reasons a step can stop, and the state right after power-on reset. -/

namespace Sys2Proof.Machine

/-- There is no fault: no rule of the manual stops the part. -/
inductive Fault
  deriving DecidableEq, Repr

/-- The reasons for which the model has no meaning for a command. -/
inductive Refusal
  /-- Raised by `exec` alone, for a command that has no meaning yet; safe, since the machine stops. No arm raises it. -/
  | notModelled (mnemonic : String)
  deriving DecidableEq, Repr

/-! ## Enumerations -/

/-- The debounced loop state of a line, and a sample of it (R10). -/
inductive Loop
  | opened
  | closed
  deriving DecidableEq, Repr

/-- The fault kinds of R2. -/
inductive FaultKind
  | none
  | foreignVoltage
  | groundFault
  | notFitted
  deriving DecidableEq, Repr

/-- The decoder states of section 2.1 of the pulse decoding chapter; `brk` is BREAK. -/
inductive DecoderState
  | loopOpen
  | seizePending
  | make
  | brk
  | makePending
  deriving DecidableEq, Repr

/-- The call stages of R87. -/
inductive Stage
  | idle
  | dialling
  | rejected
  | conversation
  deriving DecidableEq, Repr

/-- The plan marks of R72. -/
inductive Mark
  | none
  | held
  | unwalked
  deriving DecidableEq, Repr

/-- The emission states of R111. -/
inductive Emission
  | idle
  | waitingGen
  | toneOn
  | toneOff
  deriving DecidableEq, Repr

/-- The owners of a line (R143). -/
inductive Owner
  | none
  | a
  | b
  deriving DecidableEq, Repr

/-- The service states of a line (R143). -/
inductive Service
  | outOfService
  | inService
  | test
  deriving DecidableEq, Repr

/-- The numberings of R34. -/
inductive Numbering
  | standard
  | inverted
  | offset
  deriving DecidableEq, Repr

/-- A pattern level and the kind of a watch entry (R180, R184); `brk` is BREAK. -/
inductive Level
  | brk
  | make
  deriving DecidableEq, Repr

/-- The verdicts of watch entries (R184). -/
inductive Verdict
  | seize
  | pulse
  | glitch
  | breakError
  | flash
  | flashMasked
  | release
  | interDigit
  deriving DecidableEq, Repr

/-- The symbols of a digit record: 0..9, or FL (R72). -/
inductive Symbol
  | digit (d : Fin 10)
  | fl
  deriving DecidableEq, Repr

/-- The event kinds of R170. -/
inductive EventKind
  | seized
  | released
  | digitDecoded
  | digitEmitted
  | digitDropped
  | breakError
  | flash
  | planHold
  | planComplete
  | planReject
  | dialTimeout
  | lineFault
  | scanLoss
  | scanRestored
  | ownerChange
  | snapshot
  | patternDone
  | testBurst
  deriving DecidableEq, Repr

/-- The statuses of R161. -/
inductive Status
  | ok
  | unknown
  | length
  | range
  | wrongPort
  | notOwner
  | wrongState
  | busy
  | owned
  deriving DecidableEq, Repr

/-- The phases of a port's frame receiver (R158). -/
inductive Receiver
  | idle
  | request
  | response
  | trailer
  deriving DecidableEq, Repr

/-! ## Records -/

/-- A profile entry: the 25 fields of R58, in its order. -/
structure Profile where
  makeThreshold : Nat
  breakThreshold : Nat
  settleCount : Nat
  seizeTime : Nat
  breakMin : Nat
  breakMax : Nat
  makeMin : Nat
  flashMin : Nat
  flashMax : Nat
  periodInitial : Nat
  interdigitFactor : Nat
  interdigitMin : Nat
  ratioLow : Nat
  ratioHigh : Nat
  numbering : Numbering
  queueLimit : Nat
  planRoot : Nat
  autoProceed : Nat
  endTimeout : Nat
  toneOn : Nat
  toneOff : Nat
  levelLow : Nat
  levelHigh : Nat
  flashTone : Bool
  digitReports : Bool
  deriving DecidableEq, Repr

/-- The defaults of R58. -/
def Profile.default : Profile where
  makeThreshold := 40
  breakThreshold := 24
  settleCount := 3
  seizeTime := 60
  breakMin := 20
  breakMax := 110
  makeMin := 15
  flashMin := 250
  flashMax := 900
  periodInitial := 100
  interdigitFactor := 12
  interdigitMin := 180
  ratioLow := 50
  ratioHigh := 75
  numbering := .standard
  queueLimit := 16
  planRoot := 0
  autoProceed := 0
  endTimeout := 8000
  toneOn := 70
  toneOff := 70
  levelLow := 7000
  levelHigh := 8800
  flashTone := false
  digitReports := true

/-- The quality flags of a digit (R37). -/
structure QualityFlags where
  ratioLow : Bool := false
  ratioHigh : Bool := false
  bounce : Bool := false
  deriving DecidableEq, Repr

/-- A digit record on a line's queue (R72), with the number of the record, which no master sees (R71). -/
structure DigitRecord where
  number : Fin 256
  symbol : Symbol
  pulses : Nat
  flags : QualityFlags
  seq : BitVec 8
  decodedAt : Timestamp
  mark : Mark
  deriving DecidableEq, Repr

/-- One branch of a plan node (R89): `cont` is CONTINUE. COMPLETE and REJECT hold no target. -/
inductive Branch
  | cont (target : Fin 64)
  | complete
  | hold (target : Fin 64)
  | reject
  deriving DecidableEq, Repr

/-- A plan node: ten branches, one for each digit (R89). -/
abbrev PlanNode := Vector Branch 10

/-- An event record (R170, R174). -/
structure Event where
  kind : EventKind
  line : Octet
  epoch : BitVec 8
  seq : BitVec 8
  arg1 : Octet
  arg2 : Octet
  timestamp : Timestamp
  deriving DecidableEq, Repr

/-- A segment of a dial pattern (R180). -/
structure Segment where
  level : Level
  duration : Nat
  deriving DecidableEq, Repr

/-- Where playback stands, while the play state is PLAYING (R181). -/
structure Playback where
  line : LineId
  segment : Nat
  elapsed : Nat
  deriving DecidableEq, Repr

/-- The check record, when it is not empty (R183). -/
structure CheckRecord where
  line : LineId
  symbol : Symbol
  samples : Nat
  peak : Nat
  saturated : Nat
  deriving DecidableEq, Repr

/-- An entry of the watch ring (R184). -/
structure WatchEntry where
  kind : Level
  verdict : Verdict
  duration : Nat
  timestamp : Timestamp
  deriving DecidableEq, Repr

/-- The seven statistics of a line, in the order of R185. -/
structure Statistics where
  pulses : Nat := 0
  digits : Nat := 0
  overcounts : Nat := 0
  breakErrors : Nat := 0
  glitches : Nat := 0
  ratioFlags : Nat := 0
  flashes : Nat := 0
  deriving DecidableEq, Repr

/-- The three fields that LS takes for a line at a tick (R6). -/
structure SamplerParams where
  makeThreshold : Nat
  breakThreshold : Nat
  settleCount : Nat
  deriving DecidableEq, Repr

/-- What the present tick still owes a line (the model's own, log 1).
The order of R17 is worked in steps, since the table makes rows of its own of a debounced change, a seizure, a
confirmation, a digit completion and a release. -/
inductive Due
  /-- Nothing. -/
  | nothing
  /-- A scan-fed line waits for the answer to this tick's scan request, with the fields R6 chose at the tick. -/
  | scan (params : SamplerParams)
  /-- The candidate count has reached settle_count: the change and the hand to PD are to be done (R11, R12). -/
  | change
  /-- The loop state handed did not differ: the timer limits are to be tested (the fourth part of R17). -/
  | limits
  /-- The break has reached the release limit (R24, R25). -/
  | release
  deriving DecidableEq, Repr

/-! ## The line context, block by block -/

/-- LS, per line. -/
structure LsLine where
  loop : Loop := .opened
  candidate : Nat := 0
  faultKind : FaultKind := .none
  faultLatch : Bool := false
  deriving DecidableEq, Repr

/-- PD, per line. A timer that is stopped, and T_id when not in force, is `none`. -/
structure PdLine where
  state : DecoderState := .loopOpen
  seizeTimer : Nat := 0
  breakTimer : Nat := 0
  makeTimer : Nat := 0
  inDigit : Bool := false
  pulseCount : Nat := 0
  mPrev : Nat := 0
  b : Nat := 0
  flags : QualityFlags := {}
  tId : Option Nat := none
  period : Nat
  flashMask : Bool := false
  seq : BitVec 8 := 0
  deriving DecidableEq, Repr

/-- PT, per line. -/
structure PtLine where
  profileIndex : Fin 8 := 0
  snapshot : Profile
  deriving DecidableEq, Repr

/-- DS, per line. -/
structure DsLine where
  queue : List DigitRecord := []
  inEmission : Bool := false
  deriving DecidableEq, Repr

/-- NPW, per line. -/
structure NpwLine where
  stage : Stage := .idle
  held : Bool := false
  completePending : Bool := false
  node : Fin 64 := 0
  savedNode : Fin 64 := 0
  walked : Nat := 0
  digitSeen : Bool := false
  timer : Option Nat := none
  deriving DecidableEq, Repr

/-- ES, per line. The gate is true when open. -/
structure EsLine where
  gate : Bool := false
  autoTimer : Option Nat := none
  emission : Emission := .idle
  remaining : Nat := 0
  generator : Option (Fin 8) := none
  deriving DecidableEq, Repr

/-- LAT, per line. -/
structure LatLine where
  owner : Owner := .none
  epoch : BitVec 8 := 0
  service : Service := .outOfService
  savedService : Service := .outOfService
  deriving DecidableEq, Repr

/-- MU, per line. The test level is `none` for a line that is not in TEST. -/
structure MuLine where
  testLevel : Option Level := none
  stats : Statistics := {}
  deriving DecidableEq, Repr

/-- The line context: all per-line state across the blocks, and what the tick still owes the line. -/
structure Line where
  ls : LsLine := {}
  pd : PdLine
  pt : PtLine
  ds : DsLine := {}
  npw : NpwLine := {}
  es : EsLine := {}
  lat : LatLine := {}
  mu : MuLine := {}
  due : Due := .nothing
  deriving DecidableEq, Repr

/-- The line context that power-on reset and part reset leave (R14, R42, R68, R86, R106, R125, R156, R186), given the
contents of profile entry 0. -/
def Line.afterReset (entry0 : Profile) : Line where
  pd := { period := entry0.periodInitial * 16 }
  pt := { snapshot := entry0 }

/-! ## Part-wide records -/

/-- One tone generator (section 8.3 of the tone synthesis chapter), its holder (R114), and MU's burst measure (R183). -/
structure Generator where
  holder : Option LineId := none
  symbol : Symbol := .digit 0
  incLow : BitVec 16 := 0
  incHigh : BitVec 16 := 0
  levelLow : Nat := 0
  levelHigh : Nat := 0
  phaseLow : BitVec 16 := 0
  phaseHigh : BitVec 16 := 0
  peak : Nat := 0
  saturated : Nat := 0
  deriving DecidableEq, Repr

/-- The request octets received so far (R158): `counted` counts all data octets, `data` keeps the first 80 (R159). -/
structure RequestBuffer where
  command : Option Octet := none
  target : Option Octet := none
  length : Option Octet := none
  data : List Octet := []
  counted : Nat := 0
  deriving DecidableEq, Repr

/-- The response formed when a command was taken (R159), and how many of its octets have been driven. R is the number
of data octets. -/
structure ResponseBuffer where
  status : Status
  data : List Octet
  sent : Nat := 0
  deriving DecidableEq, Repr

/-- CP/EQ, per port. -/
structure Port where
  receiver : Receiver := .idle
  request : RequestBuffer := {}
  response : Option ResponseBuffer := none
  queue : List Event := []
  lost : Nat := 0
  /-- The select line is low. -/
  selectLow : Bool := false
  /-- Select has been low since the reset pin was released, and is treated as high until it has risen (R158). -/
  ignoreSelect : Bool := false
  /-- The octet that the part drove at the most recent octet time of the frame. -/
  driven : Option Octet := none
  deriving DecidableEq, Repr

/-- The state of the part. -/
structure State where
  /-- The contexts of lines 0..31. -/
  lines : Vector Line 32
  /-- LS: consecutive-miss count, scan-loss flag, and whether the tick's scan frame is still to be taken in. -/
  missCount : Nat
  scanLoss : Bool
  scanRequested : Bool
  /-- PT: the profile entries 0..7. -/
  profiles : Vector Profile 8
  /-- DS: the free list, in the order in which records were returned. -/
  freeList : List (Fin 256)
  /-- NPW: the plan table. -/
  plan : Vector PlanNode 64
  /-- ES and TS: the generator pool. -/
  gens : Vector Generator 8
  /-- ES: the waiting list is `waiting ++ joining`: the lines that joined in earlier frames, then those that joined in
  the frame in progress, in line order (R112). -/
  waiting : List LineId
  joining : List LineId
  /-- The arbiter has not yet acted at the latest frame boundary (log 3). -/
  arbiterDue : Bool
  /-- HI: frame counter, timestamp, whether a frame sync has come since power-on reset, and the samples most recently
  placed in the S-highway upstream and L-highway downstream slots. -/
  frameCounter : BitVec 3
  timestamp : Timestamp
  frameOpen : Bool
  sUp : Vector Sample 32
  lDown : Vector Sample 32
  /-- MU: pattern, playback while PLAYING, check record, watched line, watch ring. -/
  pattern : Option (List Segment)
  play : Option Playback
  check : Option CheckRecord
  watched : Option LineId
  ring : List WatchEntry
  /-- CP/EQ: the three ports. -/
  portA : Port
  portB : Port
  portM : Port
  /-- The commands that wait, first in, first out. -/
  pending : List Instr
  deriving DecidableEq, Repr

/-- The state right after power-on reset (R14, R42, R68, R86, R89, R106, R125, R141, R156, R169, R186). -/
def State.reset : State where
  lines := Vector.replicate 32 (Line.afterReset Profile.default)
  missCount := 0
  scanLoss := false
  scanRequested := false
  profiles := Vector.replicate 8 Profile.default
  freeList := List.finRange 256
  plan := Vector.replicate 64 (Vector.replicate 10 (.cont 0))
  gens := Vector.replicate 8 {}
  waiting := []
  joining := []
  arbiterDue := false
  frameCounter := 0
  timestamp := 0
  frameOpen := false
  sUp := Vector.replicate 32 0
  lDown := Vector.replicate 32 0
  pattern := none
  play := none
  check := none
  watched := none
  ring := []
  portA := {}
  portB := {}
  portM := {}
  pending := []

end Sys2Proof.Machine
end

