-- ==== Sys2Proof/Machine/Operands.lean ====
section
/-! DEFINITION. The wire forms: the codes of the enumerations and the octet layouts of section 10.6 of the control ports chapter, and the reading of request data (R171 to R177). -/

namespace Sys2Proof.Machine

/-! ## Octets -/

/-- The octet that holds a number that fits in one. -/
def octet (n : Nat) : Octet := BitVec.ofNat 8 n

/-- A flag in an octet: 1 for set, open or true (R171). -/
def flagOctet (b : Bool) : Octet := if b then 1 else 0

/-- A 16-bit value, most significant octet first (R171). -/
def be16 (n : Nat) : List Octet := [octet (n / 256), octet n]

/-- A 32-bit value, most significant octet first (R171). -/
def be32 (t : Timestamp) : List Octet :=
  [octet (t.toNat / 16777216), octet (t.toNat / 65536), octet (t.toNat / 256), octet t.toNat]

/-- The 16-bit value that stands at octet `i` of a list. -/
def word16At (data : List Octet) (i : Nat) : Nat := (data.getD i 0).toNat * 256 + (data.getD (i + 1) 0).toNat

/-- A value clamped into a range: replaced by the nearer end when outside (section 5.1 of the scope file). -/
def clamp (lo hi n : Nat) : Nat := max lo (min hi n)

/-- The octet that names a line, or 255 for none (R164, R184). -/
def lineOctet : Option LineId → Octet
  | some n => octet n.val
  | none => 255

/-! ## Codes of the enumerations -/

/-- R7, R177. -/
def FaultKind.code : FaultKind → Nat
  | .none => 0
  | .foreignVoltage => 1
  | .groundFault => 2
  | .notFitted => 3

/-- The reading of a status octet of the scan frame (R2). -/
def FaultKind.ofOctet (o : Octet) : FaultKind :=
  match o.toNat with
  | 0 => .none
  | 1 => .foreignVoltage
  | 2 => .groundFault
  | _ => .notFitted

/-- R177. -/
def DecoderState.code : DecoderState → Nat
  | .loopOpen => 0
  | .seizePending => 1
  | .make => 2
  | .brk => 3
  | .makePending => 4

/-- R107, R177. -/
def Stage.code : Stage → Nat
  | .idle => 0
  | .dialling => 1
  | .rejected => 2
  | .conversation => 3

/-- R175. -/
def Mark.code : Mark → Nat
  | .none => 0
  | .held => 1
  | .unwalked => 2

/-- R126, R177. -/
def Emission.code : Emission → Nat
  | .idle => 0
  | .waitingGen => 1
  | .toneOn => 2
  | .toneOff => 3

/-- R145, R157. -/
def Owner.code : Owner → Nat
  | .none => 0
  | .a => 1
  | .b => 2

/-- The owner that the data octet of ASSIGN names (R151). -/
def Owner.ofOctet (o : Octet) : Option Owner :=
  match o.toNat with
  | 0 => some .none
  | 1 => some .a
  | 2 => some .b
  | _ => Option.none

/-- The port of an owner that is A or B. -/
def Owner.port : Owner → Option PortId
  | .none => Option.none
  | .a => some .a
  | .b => some .b

/-- R157, R177. -/
def Service.code : Service → Nat
  | .outOfService => 0
  | .inService => 1
  | .test => 2

/-- R176. -/
def Numbering.code : Numbering → Nat
  | .standard => 0
  | .inverted => 1
  | .offset => 2

/-- The numbering of a code, when it is defined (step 3 of R59). -/
def Numbering.ofOctet (o : Octet) : Option Numbering :=
  match o.toNat with
  | 0 => some .standard
  | 1 => some .inverted
  | 2 => some .offset
  | _ => none

/-- OFF or ON, when the code is defined (step 3 of R59). -/
def onOffOfOctet (o : Octet) : Option Bool :=
  match o.toNat with
  | 0 => some false
  | 1 => some true
  | _ => none

/-- R180, R184: BREAK 0, MAKE 1. -/
def Level.code : Level → Nat
  | .brk => 0
  | .make => 1

/-- The level of a LOAD_PATTERN segment (R180). -/
def Level.ofOctet (o : Octet) : Option Level :=
  match o.toNat with
  | 0 => some .brk
  | 1 => some .make
  | _ => none

/-- R184. -/
def Verdict.code : Verdict → Nat
  | .seize => 0
  | .pulse => 1
  | .glitch => 2
  | .breakError => 3
  | .flash => 4
  | .flashMasked => 5
  | .release => 6
  | .interDigit => 7

/-- R175: 0..9, or 10 for FL. -/
def Symbol.code : Symbol → Nat
  | .digit d => d.val
  | .fl => 10

/-- R170. -/
def EventKind.code : EventKind → Nat
  | .seized => 1
  | .released => 2
  | .digitDecoded => 3
  | .digitEmitted => 4
  | .digitDropped => 5
  | .breakError => 6
  | .flash => 7
  | .planHold => 8
  | .planComplete => 9
  | .planReject => 10
  | .dialTimeout => 11
  | .lineFault => 12
  | .scanLoss => 13
  | .scanRestored => 14
  | .ownerChange => 15
  | .snapshot => 16
  | .patternDone => 17
  | .testBurst => 18

/-- R161. -/
def Status.code : Status → Nat
  | .ok => 0
  | .unknown => 1
  | .length => 2
  | .range => 3
  | .wrongPort => 4
  | .notOwner => 5
  | .wrongState => 6
  | .busy => 7
  | .owned => 8

/-- RATIO_LOW 1 + RATIO_HIGH 2 + BOUNCE 4 (R35, R175). -/
def QualityFlags.value (f : QualityFlags) : Nat :=
  (if f.ratioLow then 1 else 0) + (if f.ratioHigh then 2 else 0) + (if f.bounce then 4 else 0)

/-! ## Layouts -/

/-- An event record in a READ_EVENTS response, 10 octets (R174). -/
def Event.octets (e : Event) : List Octet :=
  [octet e.kind.code, e.line, e.epoch, e.seq, e.arg1, e.arg2] ++ be32 e.timestamp

/-- A digit record in a PEEK_QUEUE response, 7 octets (R175). -/
def DigitRecord.octets (r : DigitRecord) : List Octet :=
  [octet r.symbol.code, octet r.pulses, octet r.flags.value, r.seq] ++ be16 (r.decodedAt.toNat % 65536) ++ [octet r.mark.code]

/-- A watch entry in a READ_WATCH response, 8 octets (R184). -/
def WatchEntry.octets (w : WatchEntry) : List Octet :=
  [octet w.kind.code, octet w.verdict.code] ++ be16 w.duration ++ be32 w.timestamp

/-- A profile entry, 47 octets (R176). -/
def Profile.octets (e : Profile) : List Octet :=
  be16 e.makeThreshold ++ be16 e.breakThreshold ++ be16 e.settleCount ++ be16 e.seizeTime ++ be16 e.breakMin
    ++ be16 e.breakMax ++ be16 e.makeMin ++ be16 e.flashMin ++ be16 e.flashMax ++ be16 e.periodInitial
    ++ be16 e.interdigitFactor ++ be16 e.interdigitMin ++ be16 e.ratioLow ++ be16 e.ratioHigh
    ++ [octet e.numbering.code]
    ++ be16 e.queueLimit ++ be16 e.planRoot ++ be16 e.autoProceed ++ be16 e.endTimeout ++ be16 e.toneOn
    ++ be16 e.toneOff ++ be16 e.levelLow ++ be16 e.levelHigh
    ++ [flagOctet e.flashTone, flagOctet e.digitReports]

/-- The entry that WRITE_PROFILE data carries after steps 3 and 4 of R59: none when an enumerated field carries an
undefined code, else every numeric field clamped into its range of R58. -/
def Profile.ofOctets (d : List Octet) : Option Profile :=
  match Numbering.ofOctet (d.getD 28 0), onOffOfOctet (d.getD 45 0), onOffOfOctet (d.getD 46 0) with
  | some num, some flash, some reports => some
    { makeThreshold := clamp 1 255 (word16At d 0)
      breakThreshold := clamp 0 254 (word16At d 2)
      settleCount := clamp 1 8 (word16At d 4)
      seizeTime := clamp 10 500 (word16At d 6)
      breakMin := clamp 10 80 (word16At d 8)
      breakMax := clamp 40 200 (word16At d 10)
      makeMin := clamp 5 60 (word16At d 12)
      flashMin := clamp 100 1500 (word16At d 14)
      flashMax := clamp 200 2000 (word16At d 16)
      periodInitial := clamp 60 160 (word16At d 18)
      interdigitFactor := clamp 6 24 (word16At d 20)
      interdigitMin := clamp 100 1000 (word16At d 22)
      ratioLow := clamp 30 70 (word16At d 24)
      ratioHigh := clamp 55 90 (word16At d 26)
      numbering := num
      queueLimit := clamp 1 32 (word16At d 29)
      planRoot := clamp 0 63 (word16At d 31)
      autoProceed := clamp 0 10000 (word16At d 33)
      endTimeout := clamp 1000 30000 (word16At d 35)
      toneOn := clamp 40 200 (word16At d 37)
      toneOff := clamp 40 500 (word16At d 39)
      levelLow := clamp 0 32767 (word16At d 41)
      levelHigh := clamp 0 32767 (word16At d 43)
      flashTone := flash
      digitReports := reports }
  | _, _, _ => none

/-- The orders that hold within every entry (R58). -/
def Profile.ordered (e : Profile) : Bool :=
  e.breakThreshold < e.makeThreshold && e.breakMin < e.breakMax && e.breakMax < e.flashMin
    && e.flashMin ≤ e.flashMax && e.ratioLow < e.ratioHigh

/-- A branch as a kind code and a target, 0 for COMPLETE and REJECT (R89, R90). -/
def Branch.octets : Branch → List Octet
  | .cont n => [0, octet n.val]
  | .complete => [1, 0]
  | .hold n => [2, octet n.val]
  | .reject => [3, 0]

/-- A branch read from a kind code and a target: none where steps 3 and 4 of R90 refuse it. -/
def Branch.ofOctets (kind target : Octet) : Option Branch :=
  match kind.toNat with
  | 0 => if h : target.toNat < 64 then some (.cont ⟨target.toNat, h⟩) else none
  | 1 => some .complete
  | 2 => if h : target.toNat < 64 then some (.hold ⟨target.toNat, h⟩) else none
  | 3 => some .reject
  | _ => none

/-- A plan node, 20 octets, the branches in digit order (R90, R176). -/
def planNodeOctets (node : PlanNode) : List Octet := node.toList.flatMap Branch.octets

/-- The branches read from consecutive pairs of octets; none when a branch is refused. -/
def branchesOfOctets : List Octet → Option (List Branch)
  | [] => some []
  | [_] => none
  | k :: t :: rest =>
    match Branch.ofOctets k t, branchesOfOctets rest with
    | some b, some bs => some (b :: bs)
    | _, _ => none

/-- The plan node that the 20 data octets of WRITE_PLAN carry; none where R90 refuses them. -/
def planNodeOfOctets (d : List Octet) : Option PlanNode :=
  match branchesOfOctets d with
  | some bs => if bs.length = 10 then some (Vector.ofFn fun i => bs.getD i.val .reject) else none
  | none => none

/-- The segments that LOAD_PATTERN data carries, three octets each; none when a level or a duration is out of range
(R180). -/
def segmentsOfOctets : List Octet → Option (List Segment)
  | [] => some []
  | l :: hi :: lo :: rest =>
    match Level.ofOctet l, segmentsOfOctets rest with
    | some level, some segs =>
      let duration := hi.toNat * 256 + lo.toNat
      if 1 ≤ duration ∧ duration ≤ 4095 then some (⟨level, duration⟩ :: segs) else none
    | _, _ => none
  | _ => none

/-! ## Requests and replies -/

/-- A request when it is complete: command octet, target octet, L, and the data octets kept, at most 80 (R158, R159). -/
structure Request where
  command : Octet
  target : Octet
  length : Nat
  data : List Octet
  deriving DecidableEq, Repr

/-- The request of a row: its data octets are all counted and the first 80 are kept (R159). -/
def request (command target : Octet) (data : List Octet) : Request :=
  ⟨command, target, data.length, data.take Config.requestDataKept⟩

/-- The one data octet of a request whose L is 1. -/
def Request.value (r : Request) : Octet := r.data.headD 0

/-- The line that a target octet names, when it lies in 0..31. -/
def lineOfOctet (t : Octet) : Option LineId := if h : t.toNat < 32 then some ⟨t.toNat, h⟩ else none

/-- The profile entry that an octet names, when it lies in 0..7. -/
def entryOfOctet (t : Octet) : Option (Fin 8) := if h : t.toNat < 8 then some ⟨t.toNat, h⟩ else none

/-- The plan node that a target octet names, when it lies in 0..63. -/
def nodeOfOctet (t : Octet) : Option (Fin 64) := if h : t.toNat < 64 then some ⟨t.toNat, h⟩ else none

/-- A response as it is formed: the status and the response octets (R159). -/
structure Reply where
  status : Status
  data : List Octet
  deriving DecidableEq, Repr

end Sys2Proof.Machine
end

