-- ==== Sys2Proof/Machine/Flags.lean ====
section
/-! DEFINITION. The decoder's arithmetic: saturation, the classes of break (R26), the period estimate (R50, R51), the inter-digit threshold (R52), the break ratio and the quality flags (R55, R56), the numbering (R34). -/

namespace Sys2Proof.Machine

/-- A count or timer that stops at 65535 (R17, R25, R27, R185). -/
def saturate16 (n : Nat) : Nat := min Config.count16Max n

/-- An argument capped at one octet (R29, R30, R170). -/
def capOctet (n : Nat) : Nat := min Config.octetMax n

/-- The class of a confirmed break (R26). -/
inductive BreakClass
  | glitch
  | pulse
  | breakError
  | flash
  deriving DecidableEq, Repr

/-- R26. A length above flash_max is never captured (R24); it stands in the last row (log 19). -/
def classifyBreak (e : Profile) (b : Nat) : BreakClass :=
  if b < e.breakMin then .glitch
  else if b ≤ e.breakMax then .pulse
  else if b < e.flashMin then .breakError
  else .flash

/-- The period sample of a pulse pair (R50). -/
def periodSample (mPrev b : Nat) : Nat := (mPrev + b) * 16

/-- The update of the period estimate (R51). -/
def nextPeriod (p s : Nat) : Nat := clamp Config.periodMin Config.periodMax ((7 * p + s + 4) / 8)

/-- T_id (R52). -/
def interDigitThreshold (e : Profile) (p : Nat) : Nat := max e.interdigitMin (p * e.interdigitFactor / 64)

/-- The break ratio (R55). -/
def breakRatio (mPrev b : Nat) : Nat := 100 * b / (mPrev + b)

/-- Whether the ratio of a pair sets a flag (R56). -/
def ratioOutside (e : Profile) (ratio : Nat) : Bool := decide (ratio < e.ratioLow) || decide (e.ratioHigh < ratio)

/-- The flags after the ratio test of a pulse pair (R56): a flag that is set stays set (R37). -/
def QualityFlags.afterRatio (f : QualityFlags) (e : Profile) (ratio : Nat) : QualityFlags :=
  { f with
    ratioLow := f.ratioLow || decide (ratio < e.ratioLow)
    ratioHigh := f.ratioHigh || decide (e.ratioHigh < ratio) }

/-- The symbol of a pulse count 1..10 under a numbering, none for an OVERCOUNT (R34). A digit in progress has at least
one pulse, so the count 0 does not arise; it has no row in R34 and is none (log 19). -/
def digitOf (numbering : Numbering) (pulses : Nat) : Option (Fin 10) :=
  if 1 ≤ pulses ∧ pulses ≤ 10 then
    match numbering with
    | .standard => some (Fin.ofNat 10 pulses)
    | .inverted => some (Fin.ofNat 10 (10 - pulses))
    | .offset => some (Fin.ofNat 10 (pulses - 1))
  else none

/-- The pulse count and flag value that DIGIT_DECODED and DIGIT_DROPPED carry in arg2 (R35, R36, R104). -/
def digitArg2 (pulses : Nat) (f : QualityFlags) : Nat := pulses + 16 * f.value

end Sys2Proof.Machine
end

