-- ==== Sys2Proof/Machine/Ops.lean ====
section
/-! DEFINITION. The named operations over the state: reading and updating one line, one port and one generator; making and routing event records; the watch ring and the statistics; the digit store; requests, withdrawals and cuts of the emission scheduler; the line reset. -/

namespace Sys2Proof.Machine

/-- The 32 lines in order. -/
def allLines : List LineId := List.finRange 32

/-- The 8 generators in order. -/
def allGenerators : List (Fin 8) := List.finRange 8

/-! ## Reading and updating one component -/

/-- The context of a line. -/
def State.line (s : State) (n : LineId) : Line := s.lines[n]

/-- A line's context replaced by a function of it. -/
def State.updLine (s : State) (n : LineId) (f : Line → Line) : State :=
  { s with lines := s.lines.set n (f s.lines[n]) }

/-- A generator. -/
def State.gen (s : State) (g : Fin 8) : Generator := s.gens[g]

/-- A generator replaced by a function of it. -/
def State.updGen (s : State) (g : Fin 8) (f : Generator → Generator) : State :=
  { s with gens := s.gens.set g (f s.gens[g]) }

/-- A port. -/
def State.port (s : State) : PortId → Port
  | .a => s.portA
  | .b => s.portB
  | .m => s.portM

/-- A port replaced by a function of it. -/
def State.updPort (s : State) (p : PortId) (f : Port → Port) : State :=
  match p with
  | .a => { s with portA := f s.portA }
  | .b => { s with portB := f s.portB }
  | .m => { s with portM := f s.portM }

/-- Updates of one block's part of a line. -/
def State.updLs (s : State) (n : LineId) (f : LsLine → LsLine) : State := s.updLine n fun l => { l with ls := f l.ls }

def State.updPd (s : State) (n : LineId) (f : PdLine → PdLine) : State := s.updLine n fun l => { l with pd := f l.pd }

def State.updPt (s : State) (n : LineId) (f : PtLine → PtLine) : State := s.updLine n fun l => { l with pt := f l.pt }

def State.updDs (s : State) (n : LineId) (f : DsLine → DsLine) : State := s.updLine n fun l => { l with ds := f l.ds }

def State.updNpw (s : State) (n : LineId) (f : NpwLine → NpwLine) : State :=
  s.updLine n fun l => { l with npw := f l.npw }

def State.updEs (s : State) (n : LineId) (f : EsLine → EsLine) : State := s.updLine n fun l => { l with es := f l.es }

def State.updLat (s : State) (n : LineId) (f : LatLine → LatLine) : State :=
  s.updLine n fun l => { l with lat := f l.lat }

def State.updMu (s : State) (n : LineId) (f : MuLine → MuLine) : State := s.updLine n fun l => { l with mu := f l.mu }

/-- What the tick still owes a line. -/
def State.setDue (s : State) (n : LineId) (d : Due) : State := s.updLine n fun l => { l with due := d }

/-- The live entry of a line (R58). -/
def State.liveEntry (s : State) (n : LineId) : Profile := s.profiles[(s.line n).pt.profileIndex]

/-- The snapshot of a line (R63). -/
def State.snapshot (s : State) (n : LineId) : Profile := (s.line n).pt.snapshot

/-! ## Event records -/

/-- The attention output of a port (R168). -/
def Port.attention (q : Port) : Bool := !q.queue.isEmpty || decide (0 < q.lost)

/-- A record delivered to one port's event queue: stored at the tail, or lost and counted (R165). -/
def Port.accept (q : Port) (e : Event) : Port :=
  if q.queue.length < Config.eventQueueCapacity then { q with queue := q.queue ++ [e] }
  else { q with lost := min Config.octetMax (q.lost + 1) }

/-- Delivery of a record to a port (R165). -/
def State.deliver (s : State) (p : PortId) (e : Event) : State := s.updPort p fun q => q.accept e

/-- The ports that receive a record made for a line (R144). -/
def State.route (s : State) (n : LineId) : List PortId :=
  match (s.line n).lat.service with
  | .test => [.m]
  | _ =>
    match (s.line n).lat.owner.port with
    | some p => if s.watched = some n then [p, .m] else [p]
    | none => [.m]

/-- The port that receives a line's events as its own, not as the copy for a watched line (R8). -/
def State.eventPort (s : State) (n : LineId) : PortId :=
  match (s.line n).lat.service with
  | .test => .m
  | _ => ((s.line n).lat.owner.port).getD .m

/-- A record for a line, with its epoch and the timestamp of the tick in progress (R133, R144). -/
def State.event (s : State) (kind : EventKind) (n : LineId) (seq : BitVec 8) (arg1 arg2 : Nat) : Event where
  kind := kind
  line := octet n.val
  epoch := (s.line n).lat.epoch
  seq := seq
  arg1 := octet arg1
  arg2 := octet arg2
  timestamp := s.timestamp

/-- A record sent for a line: made, and delivered as LAT routes it (R144). -/
def State.send (s : State) (kind : EventKind) (n : LineId) (seq : BitVec 8) (arg1 arg2 : Nat) : State :=
  (s.route n).foldl (fun t p => t.deliver p (s.event kind n seq arg1 arg2)) s

/-- A part-wide record: line 255, epoch 0, seq 0, to all three queues (R4, R5). -/
def State.sendAll (s : State) (kind : EventKind) (arg1 : Nat) : State :=
  let e : Event :=
    { kind := kind, line := 255, epoch := 0, seq := 0, arg1 := octet arg1, arg2 := 0, timestamp := s.timestamp }
  ((s.deliver .a e).deliver .b e).deliver .m e

/-! ## Watch and statistics -/

/-- The ring with an entry stored: the oldest makes room (R184). -/
def pushRing (ring : List WatchEntry) (w : WatchEntry) : List WatchEntry :=
  if ring.length < Config.watchRingCapacity then ring ++ [w] else ring.tail ++ [w]

/-- PD hands a classified interval of a line: MU stores it if the line is the watched line (R43, R184). -/
def State.watchEntry (s : State) (n : LineId) (kind : Level) (duration : Nat) (verdict : Verdict) : State :=
  if s.watched = some n then
    { s with ring := pushRing s.ring ⟨kind, verdict, min Config.watchDurationMax duration, s.timestamp⟩ }
  else s

/-- An increment of a line's statistics (R44, R185). -/
def State.count (s : State) (n : LineId) (f : Statistics → Statistics) : State :=
  s.updMu n fun m => { m with stats := f m.stats }

def Statistics.addPulse (t : Statistics) : Statistics := { t with pulses := saturate16 (t.pulses + 1) }
def Statistics.addDigit (t : Statistics) : Statistics := { t with digits := saturate16 (t.digits + 1) }
def Statistics.addOvercount (t : Statistics) : Statistics := { t with overcounts := saturate16 (t.overcounts + 1) }
def Statistics.addBreakError (t : Statistics) : Statistics := { t with breakErrors := saturate16 (t.breakErrors + 1) }
def Statistics.addGlitch (t : Statistics) : Statistics := { t with glitches := saturate16 (t.glitches + 1) }
def Statistics.addRatioFlag (t : Statistics) : Statistics := { t with ratioFlags := saturate16 (t.ratioFlags + 1) }
def Statistics.addFlash (t : Statistics) : Statistics := { t with flashes := saturate16 (t.flashes + 1) }

/-! ## The digit store -/

/-- The reasons for which DS refuses an offer (R74). -/
inductive StoreRefusal
  | queueFull
  | storeFull
  deriving DecidableEq, Repr

/-- The reason code of DIGIT_DROPPED (R170). -/
def StoreRefusal.code : StoreRefusal → Nat
  | .queueFull => 1
  | .storeFull => 2

/-- The contents that an offer hands over (R72). -/
structure Offer where
  symbol : Symbol
  pulses : Nat
  flags : QualityFlags
  seq : BitVec 8
  decodedAt : Timestamp
  mark : Mark
  deriving DecidableEq, Repr

/-- The record that an offer fills. -/
def Offer.record (o : Offer) (number : Fin 256) : DigitRecord :=
  ⟨number, o.symbol, o.pulses, o.flags, o.seq, o.decodedAt, o.mark⟩

/-- An offer to DS and its outcome (R74). -/
def State.offer (s : State) (n : LineId) (o : Offer) : Option StoreRefusal × State :=
  if (s.snapshot n).queueLimit ≤ (s.line n).ds.queue.length then (some .queueFull, s)
  else
    match s.freeList with
    | [] => (some .storeFull, s)
    | r :: rest => (none, { s.updDs n (fun d => { d with queue := d.queue ++ [o.record r] }) with freeList := rest })

/-- A line's queue reduced to `kept`, with the records `gone` returned to the free list, oldest first (R71). -/
def State.takeOff (s : State) (n : LineId) (kept gone : List DigitRecord) : State :=
  { s.updDs n (fun d => { d with queue := kept }) with freeList := s.freeList ++ gone.map DigitRecord.number }

/-- The records of a line's queue that are in emission: the head while the flag is set (R77). -/
def DsLine.emitting (d : DsLine) : List DigitRecord := if d.inEmission then d.queue.take 1 else []

/-- The records of a line's queue that are not in emission. -/
def DsLine.notEmitting (d : DsLine) : List DigitRecord := if d.inEmission then d.queue.drop 1 else d.queue

/-- The purge of PURGE and of a reject: every record not in emission (R79, R82). -/
def State.purgeWaiting (s : State) (n : LineId) : State :=
  s.takeOff n (s.line n).ds.emitting (s.line n).ds.notEmitting

/-- The purge of a release and of a line reset: every record, and the in-emission flag is cleared (R81, R83). -/
def State.purgeAll (s : State) (n : LineId) : State :=
  (s.takeOff n [] (s.line n).ds.queue).updDs n fun d => { d with inEmission := false }

/-- The records that PLAN_DISCARD keeps and removes: from the HELD record on; with no HELD record, the UNWALKED ones
(R82, R99). -/
def splitAtHeld (q : List DigitRecord) : List DigitRecord × List DigitRecord :=
  if q.any (fun r => r.mark == .held) then
    (q.takeWhile fun r => r.mark != .held, q.dropWhile fun r => r.mark != .held)
  else (q.filter fun r => r.mark != .unwalked, q.filter fun r => r.mark == .unwalked)

/-- A change of the marks of a line's records, each in its place (R76). -/
def State.remark (s : State) (n : LineId) (f : DigitRecord → Mark) : State :=
  s.updDs n fun d => { d with queue := d.queue.map fun r => { r with mark := f r } }

/-! ## Emission requests, withdrawals and cuts -/

/-- The request conditions of R112. -/
def Line.requests (l : Line) : Bool :=
  (l.lat.service == .inService || l.lat.service == .test)
    && (l.npw.stage == .dialling || l.npw.stage == .conversation)
    && l.es.gate
    && (match l.ds.queue with
        | [] => false
        | r :: _ => r.mark == .none)

/-- A line put among the lines that joined in the frame in progress, in line-number order (R112). A line that was withdrawn
and joins again in the same frame takes its place in this order too: between R112 and R113, which puts it behind every line
already waiting, this is the model's choice (log 28). -/
def insertLine (n : LineId) : List LineId → List LineId
  | [] => [n]
  | m :: rest => if n < m then n :: m :: rest else m :: insertLine n rest

/-- The whole waiting list, head first (R112). -/
def State.waitingList (s : State) : List LineId := s.waiting ++ s.joining

/-- A line taken out of the waiting list; the lines behind it move up (R113). -/
def State.leaveList (s : State) (n : LineId) : State :=
  { s with waiting := s.waiting.filter (· != n), joining := s.joining.filter (· != n) }

/-- The check that follows whatever may have changed a line's request conditions: an IDLE line that meets them requests
(R112), a waiting line that fails them is withdrawn (R113). -/
def State.reviewRequest (s : State) (n : LineId) : State :=
  match (s.line n).es.emission with
  | .idle =>
    if (s.line n).requests then
      { s.updEs n (fun e => { e with emission := .waitingGen }) with joining := insertLine n s.joining }
    else s
  | .waitingGen =>
    if (s.line n).requests then s
    else (s.leaveList n).updEs n fun e => { e with emission := .idle }
  | .toneOn => s
  | .toneOff => s

/-- The generator that a line holds becomes free; it keeps the values of its burst (R114). -/
def State.freeGenerator (s : State) (n : LineId) : State :=
  match (s.line n).es.generator with
  | some g => s.updGen g fun x => { x with holder := none }
  | none => s

/-- What release and line reset do in ES: gate closed, timer stopped, the emission ended whatever its state (R120). -/
def State.cutEmission (s : State) (n : LineId) : State :=
  let t :=
    match (s.line n).es.emission with
    | .idle => s
    | .waitingGen => s.leaveList n
    | .toneOn => s.freeGenerator n
    | .toneOff => s
  t.updEs n fun _ => {}

/-! ## Line reset -/

/-- NPW at release and at line reset (R105). -/
def State.clearWalk (s : State) (n : LineId) : State := s.updNpw n fun _ => {}

/-- PD at a line reset: every value of R41, with P at P0 of the live entry. -/
def State.resetDecoder (s : State) (n : LineId) : State :=
  s.updPd n fun _ => { period := (s.liveEntry n).periodInitial * 16 }

/-- Playback into a line stops without PATTERN_DONE; the level stays (R182). -/
def State.stopPlayback (s : State) (n : LineId) : State :=
  match s.play with
  | some pl => if pl.line = n then { s with play := none } else s
  | none => s

/-- What the tick owes a line after a line reset: the sampler's work of the tick is still to be done, since a line reset
keeps the candidate count and freezes nothing (R15), so a line goes on waiting for its scan frame, and a change that has
reached settle_count is still made (R11). What the decoder was to do is gone with the decoder's interval (R41, log 24). -/
def Due.afterLineReset : Due → Due
  | .scan params => .scan params
  | .nothing => .nothing
  | .change => .change
  | .limits => .nothing
  | .release => .nothing

/-- A line reset (R155), block by block: LS, PD, NPW, DS, ES, MU. PT and LAT keep theirs. -/
def State.lineReset (s : State) (n : LineId) : State :=
  let s := s.updLs n fun l => { l with faultLatch := false }
  let s := s.resetDecoder n
  let s := s.clearWalk n
  let s := s.purgeAll n
  let s := s.cutEmission n
  let s := s.stopPlayback n
  s.setDue n (s.line n).due.afterLineReset

end Sys2Proof.Machine
end

