-- ==== Sys2Proof/Machine/Synthesis.lean ====
section
/-! DEFINITION. The Tone Synthesizer (chapter 8): the phase increments, the sine table, the set-up of a generator at a grant, one burst sample. -/

namespace Sys2Proof.Machine

/-- The low-group increment of a symbol (R136). -/
def Symbol.incLow : Symbol → BitVec 16
  | .digit d =>
    match d.val with
    | 0 => 7709
    | 1 => 5710
    | 2 => 5710
    | 3 => 5710
    | 4 => 6308
    | 5 => 6308
    | 6 => 6308
    | _ => 6980
  | .fl => 7709

/-- The high-group increment of a symbol (R136). -/
def Symbol.incHigh : Symbol → BitVec 16
  | .digit d =>
    match d.val with
    | 1 => 9904
    | 4 => 9904
    | 7 => 9904
    | 3 => 12100
    | 6 => 12100
    | 9 => 12100
    | _ => 10945
  | .fl => 13378

/-- The entries S[0] to S[64] of the sine table (R137). -/
def sineQuarter : List Nat :=
  [0, 804, 1608, 2410, 3212, 4011, 4808, 5602, 6393, 7179, 7962, 8739, 9512]
  ++ [10278, 11039, 11793, 12539, 13279, 14010, 14732, 15446, 16151, 16846, 17530, 18204, 18868]
  ++ [19519, 20159, 20787, 21403, 22005, 22594, 23170, 23731, 24279, 24811, 25329, 25832, 26319]
  ++ [26790, 27245, 27683, 28105, 28510, 28898, 29268, 29621, 29956, 30273, 30571, 30852, 31113]
  ++ [31356, 31580, 31785, 31971, 32137, 32285, 32412, 32521, 32609, 32678, 32728, 32757, 32767]

/-- The sine table S[i] for i in 0..255, from its first quarter by the symmetries of R137. -/
def sine (i : Nat) : Int :=
  if i ≤ 64 then sineQuarter.getD i 0
  else if i ≤ 128 then sineQuarter.getD (128 - i) 0
  else if i ≤ 192 then -(sineQuarter.getD (i - 128) 0 : Int)
  else -(sineQuarter.getD (256 - i) 0 : Int)

/-- The table index of a phase (R137). -/
def phaseIndex (phase : BitVec 16) : Nat := phase.toNat / 256

/-- The sum of the two tones, formed exactly (R138). -/
def Generator.sum (g : Generator) : Int :=
  sine (phaseIndex g.phaseLow) * g.levelLow + sine (phaseIndex g.phaseHigh) * g.levelHigh

/-- The sample before saturation: the floor of (acc + 16384) / 32768 (R138). -/
def Generator.raw (g : Generator) : Int := (g.sum + 16384) / 32768

/-- The sample of the frame (R138). -/
def Generator.value (g : Generator) : Int := max (-32768) (min 32767 g.raw)

/-- Whether the sample of the frame is saturated (R138). -/
def Generator.isSaturated (g : Generator) : Bool := decide (g.raw < -32768) || decide (32767 < g.raw)

/-- The sample as it stands in a highway slot. -/
def Generator.sample (g : Generator) : Sample := BitVec.ofInt 16 g.value

/-- The accumulators for the next frame (R138). -/
def Generator.advance (g : Generator) : Generator :=
  { g with phaseLow := g.phaseLow + g.incLow, phaseHigh := g.phaseHigh + g.incHigh }

/-- MU takes a sample of a burst of a line in TEST into the burst measure (R183). -/
def Generator.measure (g : Generator) : Generator :=
  { g with
    peak := max g.peak g.value.natAbs
    saturated := if g.isSaturated then saturate16 (g.saturated + 1) else g.saturated }

/-- The set-up of a generator at a grant (R116, R136), with a fresh burst measure when the line is in TEST (R183). -/
def Generator.setUp (g : Generator) (n : LineId) (symbol : Symbol) (e : Profile) (inTest : Bool) : Generator where
  holder := some n
  symbol := symbol
  incLow := symbol.incLow
  incHigh := symbol.incHigh
  levelLow := e.levelLow
  levelHigh := e.levelHigh
  phaseLow := 0
  phaseHigh := 0
  peak := if inTest then 0 else g.peak
  saturated := if inTest then 0 else g.saturated

end Sys2Proof.Machine
end

