-- ==== Sys2Proof/Machine/Walker.lean ====
section
/-! DEFINITION. The Number Plan Walker (chapter 6): digits reaching the walker, the walk, rejects, the end-of-dialling timer, the drained-queue report, the re-walk of PLAN_RELEASE; and the row DIAL_TIMEOUT. -/

namespace Sys2Proof.Machine

/-- A digit as PD hands it on (R35). -/
structure Digit where
  symbol : Fin 10
  pulses : Nat
  flags : QualityFlags
  seq : BitVec 8
  decodedAt : Timestamp
  deriving DecidableEq, Repr

/-- The offer of a digit with a plan mark (R92, R93, R104). -/
def Digit.offer (d : Digit) (mark : Mark) : Offer := ⟨.digit d.symbol, d.pulses, d.flags, d.seq, d.decodedAt, mark⟩

/-- The reasons of a reject (R95). -/
inductive RejectReason
  | noRoute
  | tooLong
  | overflow
  deriving DecidableEq, Repr

/-- The reason code of PLAN_REJECT; DISCARDED is 3 (R107). -/
def RejectReason.code : RejectReason → Nat
  | .noRoute => 0
  | .tooLong => 1
  | .overflow => 2

/-- The stage REJECTED, with the flags and the timer as every transition out of DIALLING leaves them (R95, R99). -/
def NpwLine.toRejected (w : NpwLine) : NpwLine :=
  { w with stage := .rejected, held := false, completePending := false, timer := none }

/-- The stage CONVERSATION, likewise (R100, R102, R103). -/
def NpwLine.toConversation (w : NpwLine) : NpwLine :=
  { w with stage := .conversation, held := false, completePending := false, timer := none }

/-- A reject: the line moves to REJECTED, its queue is purged but for a record in emission, PLAN_REJECT is sent with the
number of records purged, and a waiting line is withdrawn (R95, R82, R113). -/
def State.reject (s : State) (n : LineId) (reason : RejectReason) (seq : BitVec 8) : State :=
  let count := (s.line n).ds.notEmitting.length
  let s := s.updNpw n NpwLine.toRejected
  let s := s.purgeWaiting n
  let s := s.send .planReject n seq reason.code count
  s.reviewRequest n

/-- An offer made for a line in DIALLING, with what follows when DS accepts it; a refusal is a reject with reason
OVERFLOW (R94). -/
def State.offerOrReject (s : State) (n : LineId) (o : Offer) (accepted : State → State) : State :=
  match s.offer n o with
  | (none, t) => (accepted t).reviewRequest n
  | (some _, t) => t.reject n .overflow o.seq

/-- The branch that a digit follows at a line's current node (R89, R91). -/
def State.branchFor (s : State) (n : LineId) (symbol : Fin 10) : Branch := (s.plan[(s.line n).npw.node])[symbol]

/-- COMPLETE: complete-pending is set and PLAN_COMPLETE is sent (R93). -/
def State.reachComplete (s : State) (n : LineId) (seq : BitVec 8) : State :=
  let s := s.updNpw n fun w => { w with completePending := true }
  s.send .planComplete n seq (s.line n).npw.node.val (s.line n).npw.walked

/-- HOLD: the held flag is set, the saved node is kept and PLAN_HOLD is sent (R93). -/
def State.reachHold (s : State) (n : LineId) (saved : Fin 64) (seq : BitVec 8) (symbol : Fin 10) : State :=
  let s := s.updNpw n fun w => { w with held := true, savedNode := saved }
  s.send .planHold n seq (s.line n).npw.node.val symbol.val

/-- The walk of a digit: the digit limit first, then the branch of the current node (R93). -/
def State.walk (s : State) (n : LineId) (d : Digit) : State :=
  if Config.digitLimit ≤ (s.line n).npw.walked then s.reject n .tooLong d.seq
  else
    let s := s.updNpw n fun w => { w with walked := w.walked + 1 }
    match s.branchFor n d.symbol with
    | .cont target => s.offerOrReject n (d.offer .none) fun t => t.updNpw n fun w => { w with node := target }
    | .complete => s.offerOrReject n (d.offer .none) fun t => t.reachComplete n d.seq
    | .hold target => s.offerOrReject n (d.offer .held) fun t => t.reachHold n target d.seq d.symbol
    | .reject => s.reject n .noRoute d.seq

/-- A valid digit reaches the walker, which treats it by the call stage (R92). A digit cannot reach a line in IDLE, since
its decoder is in LOOP_OPEN or SEIZE_PENDING; it would be discarded (log 19). -/
def State.digitToWalker (s : State) (n : LineId) (d : Digit) : State :=
  match (s.line n).npw.stage with
  | .dialling =>
    let s := s.updNpw n fun w => { w with digitSeen := true }
    if (s.line n).npw.held || (s.line n).npw.completePending then s.offerOrReject n (d.offer .unwalked) id
    else s.walk n d
  | .rejected => s
  | .conversation =>
    match s.offer n (d.offer .none) with
    | (none, t) => t.reviewRequest n
    | (some why, t) => t.send .digitDropped n d.seq why.code (digitArg2 d.pulses d.flags)
  | .idle => s

/-! ## The re-walk of PLAN_RELEASE -/

/-- One record's mark changed, by the record's number (R76). -/
def State.remarkOne (s : State) (n : LineId) (number : Fin 256) (mark : Mark) : State :=
  s.remark n fun r => if r.number = number then mark else r.mark

/-- The walk of one UNWALKED record: the offer of R93 is a change of its mark (step 2 of R97). A record in a walk is a
digit; FL records are never UNWALKED (R32). -/
def State.rewalkOne (s : State) (n : LineId) (r : DigitRecord) (symbol : Fin 10) : State :=
  if Config.digitLimit ≤ (s.line n).npw.walked then s.reject n .tooLong r.seq
  else
    let s := s.updNpw n fun w => { w with walked := w.walked + 1 }
    match s.branchFor n symbol with
    | .cont target => (s.remarkOne n r.number .none).updNpw n fun w => { w with node := target }
    | .complete => (s.remarkOne n r.number .none).reachComplete n r.seq
    | .hold target => (s.remarkOne n r.number .held).reachHold n target r.seq symbol
    | .reject => s.reject n .noRoute r.seq

/-- The re-walk of the records in queue order, with the number re-walked. It stops when a branch sets the held or the
complete-pending flag again, at a reject, or at the end (step 3 of R97). -/
def State.rewalk (s : State) (n : LineId) : List DigitRecord → Nat × State
  | [] => (0, s)
  | r :: rest =>
    match r.symbol with
    | .digit d =>
      let t := s.rewalkOne n r d
      let w := (t.line n).npw
      if w.held || w.completePending || w.stage != .dialling then (1, t)
      else
        let (k, u) := t.rewalk n rest
        (k + 1, u)
    | .fl => s.rewalk n rest

/-! ## The end-of-dialling timer -/

/-- The conditions under which the end-of-dialling timer runs (R101). -/
def Line.timerRuns (l : Line) : Bool :=
  l.npw.stage == .dialling && l.npw.digitSeen && l.ds.queue.isEmpty && !l.pd.inDigit
    && l.es.emission != .toneOn && l.es.emission != .toneOff && !l.npw.held

/-- The timer at a tick (R101). -/
def Line.tickEndTimer (l : Line) : Line :=
  { l with npw := { l.npw with timer := if l.timerRuns then some (l.npw.timer.getD 0 + 1) else none } }

/-- The timer has reached the snapshot's end_timeout (R102). -/
def Line.endTimerReached (l : Line) : Bool :=
  match l.npw.timer with
  | some t => decide (l.pt.snapshot.endTimeout ≤ t)
  | none => false

/-- The expiry of the end-of-dialling timer (R102). Where the tick's other work on the line came first and a condition of
R101 has failed, the timer stops without expiring. -/
def State.dialTimeout (s : State) (n : LineId) : State :=
  if (s.line n).endTimerReached then
    if (s.line n).timerRuns then
      let s := s.send .dialTimeout n 0 (s.line n).npw.walked (if (s.line n).npw.completePending then 1 else 0)
      let s := s.updNpw n NpwLine.toConversation
      s.reviewRequest n
    else s.updNpw n fun w => { w with timer := none }
  else s

/-- A drained-queue report of ES (R100). -/
def State.drainedQueue (s : State) (n : LineId) : State :=
  if (s.line n).npw.stage = .dialling ∧ (s.line n).npw.completePending = true then s.updNpw n NpwLine.toConversation
  else s

end Sys2Proof.Machine
end

