-- ==== Sys2Proof/Machine/Emission.lean ====
section
/-! DEFINITION. The Emission Scheduler (chapter 7): the arbiter and the rows GENERATOR_GRANT, ON_PHASE_END, OFF_PHASE_END, AUTO_PROCEED_EXPIRY and DIAL_TIMEOUT. -/

namespace Sys2Proof.Machine

/-! ## The arbiter -/

/-- The free generators, lowest number first (R115). -/
def State.freeGenerators (s : State) : List (Fin 8) := allGenerators.filter fun g => (s.gen g).holder.isNone

/-- A grant: the head of the line's queue becomes the record in emission and the burst is set up (R77, R116). A waiting
line always has a head (R113); without one it would be withdrawn (log 19). -/
def State.grant (s : State) (n : LineId) (g : Fin 8) : State :=
  match (s.line n).ds.queue with
  | [] => s.updEs n fun e => { e with emission := .idle }
  | head :: _ =>
    let e := s.snapshot n
    let inTest := (s.line n).lat.service == .test
    let s := s.updEs n fun x =>
      { x with emission := .toneOn, remaining := e.toneOn * Config.samplesPerMs, generator := some g }
    let s := s.updDs n fun d => { d with inEmission := true }
    s.updGen g fun x => x.setUp n head.symbol e inTest

/-- The arbiter's work at a frame boundary: the free generators in order to the waiting lines in order, as the preceding
frame left them (R115). -/
def State.arbitrate (s : State) : State :=
  let free := s.freeGenerators
  let granted := s.waiting.zip free
  let s := { s with waiting := s.waiting.drop free.length, arbiterDue := false }
  granted.foldl (fun t x => t.grant x.1 x.2) s

/-- The arbiter acts before any other work of its boundary that reaches the pool, the list or a waiting line (R115,
log 3): every such step begins with it. -/
def State.boundaryFirst (s : State) : State := if s.arbiterDue then s.arbitrate else s

/-! ## The ends of the two phases -/

/-- MU's part of the end of an on-phase of a line in TEST: the check record and TEST_BURST to port M (R124, R183). -/
def State.testBurst (s : State) (n : LineId) (g : Fin 8) (head : DigitRecord) : State :=
  let x := s.gen g
  let s := { s with check := some ⟨n, head.symbol, (s.snapshot n).toneOn * Config.samplesPerMs, x.peak, x.saturated⟩ }
  s.deliver .m (s.event .testBurst n head.seq head.symbol.code (capOctet x.saturated))

/-- The end of an on-phase, in the five parts of R117. -/
def State.endOnPhase (s : State) (n : LineId) (g : Fin 8) (head : DigitRecord) (rest : List DigitRecord) : State :=
  let s := s.updGen g fun x => { x with holder := none }
  let s := (s.takeOff n rest [head]).updDs n fun d => { d with inEmission := false }
  let s :=
    if (s.snapshot n).digitReports then s.send .digitEmitted n head.seq head.symbol.code g.val else s
  let s := if (s.line n).lat.service = .test then s.testBurst n g head else s
  s.updEs n fun e =>
    { e with
      emission := .toneOff
      remaining := (s.snapshot n).toneOff * Config.samplesPerMs
      generator := none }

/-- The end of an on-phase is due when its last sample has been placed (R117). -/
def State.onPhaseEnd (s : State) (n : LineId) : State :=
  if (s.line n).es.emission = .toneOn ∧ (s.line n).es.remaining = 0 then
    match (s.line n).es.generator, (s.line n).ds.queue with
    | some g, head :: rest => s.endOnPhase n g head rest
    | _, _ => s
  else s

/-- The end of an off-phase, due when its samples have run out: IDLE, the drained-queue report, then the request
conditions (R119, R100). -/
def State.offPhaseEnd (s : State) (n : LineId) : State :=
  if (s.line n).es.emission = .toneOff ∧ (s.line n).es.remaining = 0 then
    let s := s.updEs n fun e => { e with emission := .idle }
    let s := if (s.line n).ds.queue.isEmpty then s.drainedQueue n else s
    s.reviewRequest n
  else s

/-! ## The auto-proceed timer -/

/-- The timer at a tick (R110). -/
def Line.tickAutoTimer (l : Line) : Line := { l with es := { l.es with autoTimer := l.es.autoTimer.map (· + 1) } }

/-- The timer has reached the snapshot's auto_proceed (R110). -/
def Line.autoTimerReached (l : Line) : Bool :=
  match l.es.autoTimer with
  | some t => decide (l.pt.snapshot.autoProceed ≤ t)
  | none => false

/-- The expiry: the gate opens, the timer stops (R110). -/
def State.autoProceedExpiry (s : State) (n : LineId) : State :=
  if (s.line n).autoTimerReached then
    (s.updEs n fun e => { e with gate := true, autoTimer := none }).reviewRequest n
  else s

/-! ## The rows -/

/-- GENERATOR_GRANT (R115). -/
def execGeneratorGrant (s : State) : Host.Outcome State Fault Refusal := .next s.boundaryFirst

/-- ON_PHASE_END (R117). -/
def execOnPhaseEnd (n : LineId) (s : State) : Host.Outcome State Fault Refusal := .next (s.boundaryFirst.onPhaseEnd n)

/-- OFF_PHASE_END (R119). -/
def execOffPhaseEnd (n : LineId) (s : State) : Host.Outcome State Fault Refusal := .next (s.boundaryFirst.offPhaseEnd n)

/-- AUTO_PROCEED_EXPIRY (R110). -/
def execAutoProceedExpiry (n : LineId) (s : State) : Host.Outcome State Fault Refusal :=
  .next (s.boundaryFirst.autoProceedExpiry n)

/-- DIAL_TIMEOUT (R102). -/
def execDialTimeout (n : LineId) (s : State) : Host.Outcome State Fault Refusal :=
  .next (s.boundaryFirst.dialTimeout n)

end Sys2Proof.Machine
end

