-- ==== Sys2Proof/Machine/Decoder.lean ====
section
/-! DEFINITION. The Pulse Decoder (chapters 2 and 3): the loop state handed at a tick, and the rows SEIZURE, MAKE_CONFIRMED, DIGIT_COMPLETE and RELEASE. -/

namespace Sys2Proof.Machine

/-! ## The loop state handed at a tick: the first three parts of R17 -/

/-- An interval timer at a tick (R17). -/
def tickTimer (t : Nat) : Nat := saturate16 (t + 1)

/-- LOOP_OPEN is handed CLOSED: SEIZE_PENDING with the seize timer at 0 (R18). -/
def State.seizePending (s : State) (n : LineId) : State :=
  s.updPd n fun d => { d with state := .seizePending, seizeTimer := 0 }

/-- SEIZE_PENDING is handed OPEN: LOOP_OPEN, and a GLITCH entry for the watched line (R19). -/
def State.seizeAbort (s : State) (n : LineId) : State :=
  let s := s.watchEntry n .make (s.line n).pd.seizeTimer .glitch
  s.updPd n fun d => { d with state := .loopOpen }

/-- MAKE is handed OPEN: BREAK, with the make length kept as m_prev; the flags are cleared outside a digit (R22). -/
def State.breakStart (s : State) (n : LineId) : State :=
  s.updPd n fun d =>
    { d with
      state := .brk
      mPrev := d.makeTimer
      breakTimer := 0
      flags := if d.inDigit then d.flags else {} }

/-- BREAK is handed CLOSED: MAKE_PENDING, with the break length captured as b (R23). -/
def State.makePendingStart (s : State) (n : LineId) : State :=
  s.updPd n fun d => { d with state := .makePending, b := d.breakTimer, makeTimer := 0 }

/-- The break has reached flash_max + 1 (R24, R25). -/
def State.releaseReached (s : State) (n : LineId) : Bool :=
  decide ((s.snapshot n).flashMax + 1 ≤ (s.line n).pd.breakTimer)

/-- MAKE_PENDING is handed OPEN: a glitch make, folded into its break (R25). -/
def State.glitchMake (s : State) (n : LineId) : State :=
  let s := s.watchEntry n .make (s.line n).pd.makeTimer .glitch
  let s := s.updPd n fun d =>
    { d with
      state := .brk
      breakTimer := saturate16 (d.b + d.makeTimer)
      flags := { d.flags with bounce := true } }
  let s := s.count n Statistics.addGlitch
  s.setDue n (if s.releaseReached n then .release else .nothing)

/-- PD receives the debounced loop state of a line that is not frozen, and works the line in the order of R17: the timer
of the state, the release limit in BREAK, the comparison with the state expected. Where the loop state does not differ, the
timer limits of the state are still to be tested. A line that is OUT_OF_SERVICE stays in LOOP_OPEN (R12, R17). -/
def State.hand (s : State) (n : LineId) : State :=
  let loop := (s.line n).ls.loop
  if (s.line n).lat.service = .outOfService then s.setDue n .nothing
  else
    match (s.line n).pd.state with
    | .loopOpen =>
      match loop with
      | .closed => (s.seizePending n).setDue n .nothing
      | .opened => s.setDue n .nothing
    | .seizePending =>
      let s := s.updPd n fun d => { d with seizeTimer := tickTimer d.seizeTimer }
      match loop with
      | .closed => s.setDue n .limits
      | .opened => (s.seizeAbort n).setDue n .nothing
    | .make =>
      let s := s.updPd n fun d => { d with makeTimer := tickTimer d.makeTimer }
      match loop with
      | .closed => s.setDue n .limits
      | .opened => (s.breakStart n).setDue n .nothing
    | .brk =>
      let s := s.updPd n fun d => { d with breakTimer := tickTimer d.breakTimer }
      if s.releaseReached n then s.setDue n .release
      else
        match loop with
        | .closed => (s.makePendingStart n).setDue n .nothing
        | .opened => s.setDue n .nothing
    | .makePending =>
      let s := s.updPd n fun d => { d with makeTimer := tickTimer d.makeTimer }
      match loop with
      | .closed => s.setDue n .limits
      | .opened =>
        if (s.line n).pd.makeTimer ≤ (s.snapshot n).makeMin then s.glitchMake n else s.setDue n .nothing

/-! ## Seizure -/

/-- The seizure of a line (R20): the decoder, then PT (R63), the SEIZED event, NPW (R88), ES (R108, R110), and the watch
entry. -/
def State.seize (s : State) (n : LineId) : State :=
  let s := s.updPd n fun d =>
    { d with
      state := .make
      inDigit := false
      makeTimer := d.seizeTimer
      pulseCount := 0
      flags := {}
      seq := 0
      tId := none
      seizeTimer := 0 }
  let entry := s.liveEntry n
  let s := s.updPt n fun p => { p with snapshot := entry }
  let s := s.send .seized n 0 (s.line n).pt.profileIndex.val 0
  let s := s.updNpw n fun _ => { stage := .dialling, node := Fin.ofNat 64 entry.planRoot }
  let inTest := (s.line n).lat.service == .test
  let s := s.updEs n fun e =>
    { e with
      gate := inTest
      autoTimer := if !inTest && entry.autoProceed != 0 then some 0 else none }
  s.watchEntry n .make (s.line n).pd.makeTimer .seize

/-- The seizure is due when the loop is still closed and the seize timer has reached the seize_time of the live entry as
it stands (R19, R65). -/
def State.seizure (s : State) (n : LineId) : State :=
  if (s.line n).due = .limits ∧ (s.line n).pd.state = .seizePending
      ∧ (s.liveEntry n).seizeTime ≤ (s.line n).pd.seizeTimer then
    (s.setDue n .nothing).seize n
  else s

/-! ## The confirmation of a make -/

/-- The digit in progress is abandoned (R29, R30, R31, R39). -/
def PdLine.abandon (d : PdLine) : PdLine := { d with inDigit := false, tId := none, pulseCount := 0 }

/-- The decoder enters MAKE after a confirmation, with the make timer at make_min (R28 to R31). -/
def PdLine.toMake (d : PdLine) (makeMin : Nat) : PdLine := { d with state := .make, makeTimer := makeMin }

/-- A glitch break, folded into the make before it (R27). -/
def State.glitchBreak (s : State) (n : LineId) : State :=
  let makeMin := (s.snapshot n).makeMin
  let s := s.updPd n fun d =>
    { d with
      state := .make
      makeTimer := saturate16 (d.mPrev + d.b + makeMin)
      flags := { d.flags with bounce := d.flags.bounce || d.inDigit } }
  let s := s.count n Statistics.addGlitch
  s.watchEntry n .brk (s.line n).pd.b .glitch

/-- The first pulse of a digit: T_id is computed from P as it stands (R28, R53). -/
def PdLine.firstPulse (d : PdLine) (e : Profile) : PdLine :=
  { d with pulseCount := 1, inDigit := true, tId := some (interDigitThreshold e d.period) }

/-- A pulse pair: P is updated (R51), the break ratio is tested (R56), T_id is recomputed from the new P (R53). -/
def PdLine.pulsePair (d : PdLine) (e : Profile) : PdLine :=
  let p := nextPeriod d.period (periodSample d.mPrev d.b)
  { d with
    pulseCount := min Config.pulseCountMax (d.pulseCount + 1)
    period := p
    flags := d.flags.afterRatio e (breakRatio d.mPrev d.b)
    tId := some (interDigitThreshold e p) }

/-- A pulse (R28), with its statistics (R44). -/
def State.pulse (s : State) (n : LineId) : State :=
  let e := s.snapshot n
  let d := (s.line n).pd
  let s := s.count n Statistics.addPulse
  let s :=
    if d.inDigit then
      let s := s.updPd n fun x => (x.pulsePair e).toMake e.makeMin
      if ratioOutside e (breakRatio d.mPrev d.b) then s.count n Statistics.addRatioFlag else s
    else s.updPd n fun x => (x.firstPulse e).toMake e.makeMin
  s.watchEntry n .brk d.b .pulse

/-- A break error (R29). -/
def State.breakError (s : State) (n : LineId) : State :=
  let d := (s.line n).pd
  let makeMin := (s.snapshot n).makeMin
  let s := s.updPd n fun x => x.abandon.toMake makeMin
  let s := s.send .breakError n 0 (capOctet (d.b / 4)) d.pulseCount
  let s := s.count n Statistics.addBreakError
  s.watchEntry n .brk d.b .breakError

/-- The offer of an FL record; a refusal is reported by DIGIT_DROPPED with arg2 0 (R32). -/
def State.offerFlash (s : State) (n : LineId) (seq : BitVec 8) : State :=
  match s.offer n ⟨.fl, 0, {}, seq, s.timestamp, .none⟩ with
  | (none, t) => t.reviewRequest n
  | (some why, t) => t.send .digitDropped n seq why.code 0

/-- A flash: reported when the mask is clear (R30), masked when it is set (R31). -/
def State.flash (s : State) (n : LineId) : State :=
  let d := (s.line n).pd
  let e := s.snapshot n
  let s := s.updPd n fun x => x.abandon.toMake e.makeMin
  if d.flashMask then
    let s := s.count n Statistics.addFlash
    s.watchEntry n .brk d.b .flashMasked
  else
    let seq := d.seq + 1
    let s := s.updPd n fun x => { x with seq := seq, flashMask := true }
    let s := s.send .flash n seq (capOctet (d.b / 4)) d.pulseCount
    let s := if e.flashTone = true ∧ (s.line n).npw.stage = .conversation then s.offerFlash n seq else s
    let s := s.count n Statistics.addFlash
    s.watchEntry n .brk d.b .flash

/-- The break b is classified and acted on (R26). After a glitch break the digit limit is tested at the same tick (R17,
R27). -/
def State.classify (s : State) (n : LineId) : State :=
  match classifyBreak (s.snapshot n) (s.line n).pd.b with
  | .glitch => (s.glitchBreak n).setDue n .limits
  | .pulse => s.pulse n
  | .breakError => s.breakError n
  | .flash => s.flash n

/-- The confirmation is due when the loop is still closed and the make timer has reached make_min (R26). -/
def State.makeConfirmed (s : State) (n : LineId) : State :=
  if (s.line n).due = .limits ∧ (s.line n).pd.state = .makePending
      ∧ (s.snapshot n).makeMin ≤ (s.line n).pd.makeTimer then
    (s.setDue n .nothing).classify n
  else s

/-! ## Digits -/

/-- A valid digit: counted, reported when digit_reports is ON, handed to NPW (R35). -/
def State.validDigit (s : State) (n : LineId) (d : Digit) : State :=
  let s := s.count n Statistics.addDigit
  let s :=
    if (s.snapshot n).digitReports then
      s.send .digitDecoded n d.seq d.symbol.val (digitArg2 d.pulses d.flags)
    else s
  s.digitToWalker n d

/-- An OVERCOUNT digit: counted and dropped (R36). -/
def State.overcount (s : State) (n : LineId) (pulses : Nat) (flags : QualityFlags) (seq : BitVec 8) : State :=
  let s := s.count n Statistics.addOvercount
  s.send .digitDropped n seq 0 (digitArg2 pulses flags)

/-- The completion of the digit in progress (R34). -/
def State.completeDigit (s : State) (n : LineId) : State :=
  let d := (s.line n).pd
  let seq := d.seq + 1
  let s := s.updPd n fun x => { x.abandon with seq := seq }
  let s := s.watchEntry n .make d.makeTimer .interDigit
  match digitOf (s.snapshot n).numbering d.pulseCount with
  | some symbol => s.validDigit n ⟨symbol, d.pulseCount, d.flags, seq, s.timestamp⟩
  | none => s.overcount n d.pulseCount d.flags seq

/-- T_id is in force and the make timer has reached it (R22, R27). -/
def PdLine.digitLimitReached (d : PdLine) : Bool :=
  match d.tId with
  | some t => d.inDigit && decide (t ≤ d.makeTimer)
  | none => false

/-- The completion is due in MAKE with a digit in progress, the loop still closed and the make timer at T_id (R34). -/
def State.digitComplete (s : State) (n : LineId) : State :=
  if (s.line n).due = .limits ∧ (s.line n).pd.state = .make ∧ (s.line n).pd.digitLimitReached = true then
    (s.setDue n .nothing).completeDigit n
  else s

/-! ## Release -/

/-- Release (R39): the decoder, then NPW (R105), DS (R81), ES (R120), the RELEASED event and the watch entry. -/
def State.releaseLine (s : State) (n : LineId) : State :=
  let d := (s.line n).pd
  let s := s.updPd n fun x =>
    { x.abandon with state := .loopOpen, seizeTimer := 0, breakTimer := 0, makeTimer := 0, flashMask := false }
  let s := s.clearWalk n
  let count := (s.line n).ds.queue.length
  let s := s.purgeAll n
  let s := s.cutEmission n
  let s := s.send .released n 0 count d.pulseCount
  s.watchEntry n .brk d.breakTimer .release

/-- The release is due when the tick's break reached the release limit (R24, R25). -/
def State.release (s : State) (n : LineId) : State :=
  if (s.line n).due = .release then (s.setDue n .nothing).releaseLine n else s

/-! ## The rows -/

/-- SEIZURE (R20). -/
def execSeizure (n : LineId) (s : State) : Host.Outcome State Fault Refusal := .next (s.boundaryFirst.seizure n)

/-- MAKE_CONFIRMED (R26). -/
def execMakeConfirmed (n : LineId) (s : State) : Host.Outcome State Fault Refusal :=
  .next (s.boundaryFirst.makeConfirmed n)

/-- DIGIT_COMPLETE (R34). -/
def execDigitComplete (n : LineId) (s : State) : Host.Outcome State Fault Refusal :=
  .next (s.boundaryFirst.digitComplete n)

/-- RELEASE (R39). -/
def execRelease (n : LineId) (s : State) : Host.Outcome State Fault Refusal := .next (s.boundaryFirst.release n)

end Sys2Proof.Machine
end

