-- ==== Sys2Proof/Machine/Sampler.lean ====
section
/-! DEFINITION. The Loop Sampler (chapter 1): fault kinds, classification, the settle filter, lines in TEST; and the rows GOOD_FRAME, MISSED_FRAME, SCAN_LOSS and DEBOUNCED_STATE_CHANGE. -/

namespace Sys2Proof.Machine

/-- The profile from which LS takes a line's fields: the snapshot in a call, the live entry in stage IDLE (R6). -/
def State.samplerEntry (s : State) (n : LineId) : Profile :=
  match (s.line n).npw.stage with
  | .idle => s.liveEntry n
  | .dialling => s.snapshot n
  | .rejected => s.snapshot n
  | .conversation => s.snapshot n

/-- The three fields that LS takes for a line at a tick (R6). -/
def State.samplerParams (s : State) (n : LineId) : SamplerParams :=
  let e := s.samplerEntry n
  ⟨e.makeThreshold, e.breakThreshold, e.settleCount⟩

/-- The classification of a current code (R10). -/
def classifyCode (params : SamplerParams) (code : Nat) (held : Loop) : Loop :=
  if params.makeThreshold ≤ code then .closed
  else if code ≤ params.breakThreshold then .opened
  else held

/-- The settle filter takes one sample (R11). Where the count reaches settle_count the change is due; otherwise the
debounced state is handed to PD at once (R12). -/
def State.settle (s : State) (n : LineId) (sample : Loop) (settleCount : Nat) : State :=
  if sample = (s.line n).ls.loop then
    (s.updLs n fun l => { l with candidate := 0 }).hand n
  else
    let s := s.updLs n fun l => { l with candidate := l.candidate + 1 }
    if settleCount ≤ (s.line n).ls.candidate then s.setDue n .change else s.hand n

/-- The other loop state. -/
def Loop.flip : Loop → Loop
  | .opened => .closed
  | .closed => .opened

/-- The change of the debounced state, due when the candidate count has reached settle_count; PD is then handed the new
state (R11, R12). -/
def State.debouncedChange (s : State) (n : LineId) : State :=
  if (s.line n).due = .change then
    (s.updLs n fun l => { l with loop := l.loop.flip, candidate := 0 }).hand n
  else s

/-- The comparison of a line's fault kind with the frame's (R7, R8). -/
def State.compareFault (s : State) (n : LineId) (kind : FaultKind) : State :=
  let old := (s.line n).ls.faultKind
  if kind = old then s
  else
    let s := s.updLs n fun l => { l with faultKind := kind, faultLatch := l.faultLatch || kind != .none }
    s.send .lineFault n 0 kind.code old.code

/-- The current code of a line in a scan frame (R172). -/
def frameCode (f : Vector Octet 65) (n : LineId) : Nat := (f[1 + 2 * n.val]).toNat

/-- The status octet of a line in a scan frame (R172). -/
def frameStatus (f : Vector Octet 65) (n : LineId) : Octet := f[2 + 2 * n.val]

/-- A good frame applied to one scan-fed line: the fault kind, then the sample unless the line is frozen (R7, R9, R10). -/
def State.scanLine (s : State) (f : Vector Octet 65) (n : LineId) : State :=
  match (s.line n).due with
  | .scan params =>
    let s := s.compareFault n (FaultKind.ofOctet (frameStatus f n))
    if (s.line n).ls.faultKind = .none then
      s.settle n (classifyCode params (frameCode f n) (s.line n).ls.loop) params.settleCount
    else s.setDue n .nothing
  | _ => s

/-- The end of a run of missed frames (R5). -/
def State.endMissedRun (s : State) : State :=
  let s := if s.scanLoss then { s.sendAll .scanRestored s.missCount with scanLoss := false } else s
  { s with missCount := 0 }

/-- A good frame taken in whole (R1, R5). -/
def State.takeGoodFrame (s : State) (f : Vector Octet 65) : State :=
  let s := { s with scanRequested := false }
  let s := s.endMissedRun
  allLines.foldl (fun t n => t.scanLine f n) s

/-- A scan-fed line is frozen for the tick (R9). -/
def Line.freeze (l : Line) : Line :=
  match l.due with
  | .scan _ => { l with due := .nothing }
  | _ => l

/-- A missed frame: the scan-fed lines are frozen and the miss is counted (R3). -/
def State.takeMissedFrame (s : State) : State :=
  { s with
    scanRequested := false
    missCount := min Config.octetMax (s.missCount + 1)
    lines := Vector.ofFn fun n => s.lines[n].freeze }

/-- The scan loss, due when the miss count has been brought to 8 (R4). -/
def State.scanLossReached (s : State) : State :=
  if s.missCount = Config.scanLossMisses ∧ s.scanLoss = false then
    { s.sendAll .scanLoss Config.scanLossMisses with scanLoss := true }
  else s

/-- The sample of a line in TEST (R13). -/
def MuLine.sample (m : MuLine) : Loop :=
  match m.testLevel with
  | some .make => .closed
  | some .brk => .opened
  | none => .opened

/-- LS at a tick boundary, for a line in TEST: its sample goes through the settle filter (R13). -/
def State.sampleTestLine (s : State) (n : LineId) : State :=
  if (s.line n).lat.service = .test then
    s.settle n (s.line n).mu.sample (s.samplerParams n).settleCount
  else s

/-! ## The rows -/

/-- GOOD_FRAME (R1): each tick takes in one frame, so an answer without a request outstanding is not taken. The marker
alone decides whether the frame is good. -/
def execGoodFrame (f : Vector Octet 65) (s : State) : Host.Outcome State Fault Refusal :=
  .next (if s.scanRequested then
    (if f[0] = Config.scanMarker then s.takeGoodFrame f else s.takeMissedFrame)
  else s)

/-- MISSED_FRAME (R3). -/
def execMissedFrame (s : State) : Host.Outcome State Fault Refusal :=
  .next (if s.scanRequested then s.takeMissedFrame else s)

/-- SCAN_LOSS (R4). -/
def execScanLoss (s : State) : Host.Outcome State Fault Refusal := .next s.scanLossReached

/-- DEBOUNCED_STATE_CHANGE (R11). -/
def execDebouncedStateChange (n : LineId) (s : State) : Host.Outcome State Fault Refusal := .next (s.debouncedChange n)

end Sys2Proof.Machine
end

