-- ==== Sys2Proof/Machine/Highway.lean ====
section
/-! DEFINITION. The Highway Interface and the boundaries (chapter 8): placing the samples of a frame, the frame counter and the timestamp, the tick-driven work, pattern playback; and the rows FRAME_BOUNDARY, TICK_BOUNDARY, PATTERN_SEGMENT_ADVANCE and PATTERN_DONE. -/

namespace Sys2Proof.Machine

/-! ## Placing the samples of a frame -/

/-- The sample of a line's burst, from the generator that the line holds (R138). -/
def State.burstSample (s : State) (l : Line) : Sample :=
  match l.es.generator with
  | some g => (s.gen g).sample
  | none => 0

/-- The sample placed in a line's S-highway upstream slot: the rows of R123 from the top (R129). -/
def State.upstream (s : State) (l : Line) (voice : Sample) : Sample :=
  match l.lat.service with
  | .outOfService => 0
  | .test => 0
  | .inService =>
    match l.npw.stage with
    | .idle => voice
    | .dialling => muted 0
    | .rejected => muted 0
    | .conversation => muted voice
where
  /-- The rows of a line in a call: outside a burst the slot carries `outside`. -/
  muted (outside : Sample) : Sample :=
    match l.es.emission with
    | .idle => outside
    | .waitingGen => outside
    | .toneOn => s.burstSample l
    | .toneOff => 0

/-- A generator in a frame: when a line holds it, its sample has been computed and its phases move on (R138); the sample
of a line in TEST goes to MU (R124, R183). -/
def State.frameGenerator (s : State) (g : Generator) : Generator :=
  match g.holder with
  | some n => if (s.line n).lat.service = .test then g.measure.advance else g.advance
  | none => g

/-- The remaining samples of a phase are reduced by 1 in a frame (R116, R119). -/
def Line.frameSample (l : Line) : Line :=
  match l.es.emission with
  | .toneOn => { l with es := { l.es with remaining := l.es.remaining - 1 } }
  | .toneOff => { l with es := { l.es with remaining := l.es.remaining - 1 } }
  | .idle => l
  | .waitingGen => l

/-- The 32 slots of a frame in both directions (R128, R129). -/
def State.placeFrame (s : State) (down up : Vector Sample 32) : State :=
  { s with
    sUp := Vector.ofFn fun n => s.upstream s.lines[n] up[n]
    lDown := down
    gens := Vector.ofFn fun g => s.frameGenerator s.gens[g]
    lines := Vector.ofFn fun n => s.lines[n].frameSample }

/-! ## Pattern playback -/

/-- The current segment of the pattern, while it is being played (R181). -/
def State.currentSegment (s : State) : Option (Playback × Segment × Nat) :=
  match s.play, s.pattern with
  | some pl, some segs =>
    match segs[pl.segment]? with
    | some seg => some (pl, seg, segs.length)
    | none => none
  | _, _ => none

/-- Playback at a tick boundary: the test level becomes the segment's level and elapsed rises by 1 (R181). -/
def State.feedPattern (s : State) : State :=
  match s.currentSegment with
  | some (pl, seg, _) =>
    { s.updMu pl.line (fun m => { m with testLevel := some seg.level }) with
      play := some { pl with elapsed := pl.elapsed + 1 } }
  | none => s

/-- The next segment becomes current when elapsed equals the segment's duration (R181). -/
def State.advanceSegment (s : State) : State :=
  match s.currentSegment with
  | some (pl, seg, len) =>
    if seg.duration ≤ pl.elapsed ∧ pl.segment + 1 < len then
      { s with play := some { pl with segment := pl.segment + 1, elapsed := 0 } }
    else s
  | none => s

/-- Playback ends when the last segment has been fed for its whole duration: IDLE, and PATTERN_DONE to port M (R181,
R170). -/
def State.endPattern (s : State) : State :=
  match s.currentSegment with
  | some (pl, seg, len) =>
    if seg.duration ≤ pl.elapsed ∧ ¬ pl.segment + 1 < len then
      let s := { s with play := none }
      s.deliver .m (s.event .patternDone pl.line 0 len seg.level.code)
    else s
  | none => s

/-! ## Completing what a boundary still owes -/

/-- What the tick still owes a line is done, in the order of R17. A line that waits for the scan frame goes on waiting. -/
def State.finishLine (s : State) (n : LineId) : State :=
  let s := s.debouncedChange n
  let s := s.seizure n
  let s := s.makeConfirmed n
  let s := s.digitComplete n
  let s := s.release n
  if (s.line n).due = .limits then s.setDue n .nothing else s

/-- All work that the latest boundary owes and that the queue has not named is done, in a fixed order (log 2). -/
def State.finishFrame (s : State) : State :=
  let s := s.boundaryFirst
  let s := allLines.foldl (fun t n => (t.onPhaseEnd n).offPhaseEnd n) s
  let s := allLines.foldl (fun t n => (t.dialTimeout n).autoProceedExpiry n) s
  let s := allLines.foldl (fun t n => t.finishLine n) s
  let s := s.advanceSegment.endPattern
  s.scanLossReached

/-! ## The boundaries -/

/-- The next frame sync opens a tick: the frame counter becomes 0, or it is the first since power-on reset (R131). -/
def State.tickNext (s : State) : Bool := !s.frameOpen || s.frameCounter == 7

/-- HI's counters at a frame sync (R131): at the first after power-on reset neither is incremented. -/
def State.advanceCounters (s : State) : State :=
  if s.frameOpen then
    { s with
      frameCounter := s.frameCounter + 1
      timestamp := if s.frameCounter = 7 then s.timestamp + 1 else s.timestamp }
  else { s with frameOpen := true }

/-- The timers of NPW and ES at a tick, and the wait of a scan-fed line for the tick's scan frame, with the fields that
LS takes at the tick (R6, R101, R110). -/
def State.tickLine (s : State) (n : LineId) : Line :=
  let l := (s.line n).tickEndTimer.tickAutoTimer
  match l.lat.service with
  | .test => l
  | .inService => { l with due := .scan (s.samplerParams n) }
  | .outOfService => { l with due := .scan (s.samplerParams n) }

/-- The tick-driven work of a tick boundary: pattern playback, the timers, the scan request, the samples of the lines in
TEST (R132). -/
def State.tickWork (s : State) : State :=
  let s := s.feedPattern
  let s := { s with lines := Vector.ofFn s.tickLine, scanRequested := true }
  allLines.foldl (fun t n => t.sampleTestLine n) s

/-- A scan frame that has not been answered before the next tick is a missed frame of the old tick (R1). -/
def State.closeTick (s : State) : State :=
  if s.scanRequested then s.takeMissedFrame.scanLossReached else s

/-- The frame in progress ends: its outstanding work is completed and its samples are placed (R131, log 9). -/
def State.endFrame (s : State) (down up : Vector Sample 32) : State :=
  let s := s.finishFrame
  if s.frameOpen then s.placeFrame down up else s

/-- The next frame opens: the counters, the lines that joined in the frame that ended move behind those already waiting
(R112), and the arbiter is due (R115). -/
def State.openFrame (s : State) : State :=
  let s := s.advanceCounters
  { s with waiting := s.waiting ++ s.joining, joining := [], arbiterDue := true }

/-- An S-highway frame sync (R131, R132): a frame boundary, and a tick boundary when the counter becomes 0. -/
def State.frameSync (s : State) (down up : Vector Sample 32) : State :=
  let t := s.endFrame down up
  if t.tickNext then t.closeTick.openFrame.tickWork else t.openFrame

/-! ## The rows -/

/-- FRAME_BOUNDARY (R131). -/
def execFrameBoundary (down up : Vector Sample 32) (s : State) : Host.Outcome State Fault Refusal :=
  .next (s.frameSync down up)

/-- TICK_BOUNDARY (R131, R132): the frame sync at which the frame counter becomes 0. Where the counter would become another
value there is no tick boundary, and nothing happens (log 4). -/
def execTickBoundary (down up : Vector Sample 32) (s : State) : Host.Outcome State Fault Refusal :=
  .next (if s.tickNext then s.frameSync down up else s)

/-- PATTERN_SEGMENT_ADVANCE (R181). -/
def execPatternSegmentAdvance (s : State) : Host.Outcome State Fault Refusal := .next s.advanceSegment

/-- PATTERN_DONE (R181). -/
def execPatternDone (s : State) : Host.Outcome State Fault Refusal := .next s.endPattern

end Sys2Proof.Machine
end

