-- ==== Sys2Proof/Machine/Ports.lean ====
section
/-! DEFINITION. The control ports (chapter 10): the moment at which a command is taken (R159), refusals (R161), the checks that commands share, the permissions of R152; and the rows FRAME_BEGIN and FRAME_END. -/

namespace Sys2Proof.Machine

/-- What a command does when it is taken on a port: its reply, and the state that it leaves. -/
abbrev Action := PortId → Request → State → Reply × State

/-- A refusal: R is 0 and nothing changes (R161). -/
def refuse (status : Status) (s : State) : Reply × State := (⟨status, []⟩, s)

/-- An accepted command with its response octets. -/
def accept (data : List Octet) (s : State) : Reply × State := (⟨.ok, data⟩, s)

/-- The request buffer when a request is complete. -/
def RequestBuffer.ofRequest (r : Request) : RequestBuffer where
  command := some r.command
  target := some r.target
  length := some (octet r.length)
  data := r.data
  counted := r.length

/-- A port when a command has just been taken on it: the response is formed and none of it has been driven; the last
request octet was clocked with 0xFF against it (R158, R159). -/
def Port.taken (q : Port) (r : Request) (reply : Reply) : Port :=
  { q with
    receiver := .response
    request := .ofRequest r
    response := some ⟨reply.status, reply.data, 0⟩
    selectLow := true
    ignoreSelect := false
    driven := some 0xFF }

/-! ## Checks that commands share -/

/-- The length check of a command without a line (R161). -/
def withLength (r : Request) (length : Nat) (s : State) (rest : Reply × State) : Reply × State :=
  if r.length = length then rest else refuse .length s

/-- The length check, then the range check of a command whose target is a line (R161). -/
def withLine (r : Request) (length : Nat) (s : State) (rest : LineId → Reply × State) : Reply × State :=
  withLength r length s
    (match lineOfOctet r.target with
     | some n => rest n
     | none => refuse .range s)

/-- The port check of a maintenance command (section 10.2). -/
def onPortM (p : PortId) (s : State) (rest : Reply × State) : Reply × State :=
  if p = .m then rest else refuse .wrongPort s

/-- The outcome of a port check: go on, or refuse with the status it gives. -/
def permitted (check : Option Status) (s : State) (rest : Reply × State) : Reply × State :=
  match check with
  | none => rest
  | some status => refuse status s

/-- Whether a port is that of the line's owner. -/
def State.ownedBy (s : State) (n : LineId) (p : PortId) : Bool := (s.line n).lat.owner.port == some p

/-- The first row of R152: PROCEED, CUT_THROUGH, PLAN_RELEASE, PLAN_DISCARD, FLASH_ACK, PURGE. -/
def State.callPermission (s : State) (n : LineId) (p : PortId) : Option Status :=
  if (s.line n).lat.service = .test then (if p = .m then none else some .wrongState)
  else if p = .m then some .wrongPort
  else if s.ownedBy n p then none
  else some .notOwner

/-- The second row of R152: LINE_RESET, ASSIGN_PROFILE, and SET_SERVICE for a line not in TEST. -/
def State.servicePermission (s : State) (n : LineId) (p : PortId) : Option Status :=
  if (s.line n).lat.service = .test then (if p = .m then none else some .wrongState)
  else if p = .m then none
  else if s.ownedBy n p then none
  else some .notOwner

/-! ## Frames -/

/-- The master lowers select: the receiver leaves IDLE and enters REQUEST with empty buffers (R158). Without a falling
edge nothing happens (log 13). -/
def Port.lowerSelect (q : Port) : Port :=
  if q.selectLow then q
  else { q with selectLow := true, receiver := .request, request := {}, response := none, driven := none }

/-- The master raises select: the receiver returns to IDLE whatever its phase, and both buffers are emptied (R158, R160).
Without a rising edge nothing happens (log 13). -/
def Port.raiseSelect (q : Port) : Port :=
  if q.selectLow then
    { q with
      selectLow := false, ignoreSelect := false, receiver := .idle, request := {}, response := none, driven := none }
  else q

/-- FRAME_BEGIN (R158). -/
def execFrameBegin (p : PortId) (s : State) : Host.Outcome State Fault Refusal :=
  .next (s.updPort p Port.lowerSelect)

/-- FRAME_END (R160). -/
def execFrameEnd (p : PortId) (s : State) : Host.Outcome State Fault Refusal := .next (s.updPort p Port.raiseSelect)

/-! ## The moment at which a command is taken -/

/-- A command is taken on a port, whole with respect to all other work (R159): the arbiter's work at the boundary that
opened the frame comes first (log 3), the action is done, and the port holds the response. -/
def take (act : Action) (p : PortId) (r : Request) (s : State) : State :=
  let result := act p r s.boundaryFirst
  result.2.updPort p fun q => q.taken r result.1

/-- A row of the command set: the whole request frame, at the moment its command is taken (log 12). -/
def takeRow (act : Action) (p : PortId) (command target : Octet) (data : List Octet) (s : State) : State :=
  take act p (request command target data) s

/-- An undefined code: refused UNKNOWN, target and data not examined (R161). -/
def actUnknown : Action := fun _ _ s => refuse .unknown s

/-- UNKNOWN_COMMAND (R161). -/
def execUnknownCommand (p : PortId) (code target : Octet) (data : List Octet) (s : State) :
    Host.Outcome State Fault Refusal :=
  .next (takeRow actUnknown p code target data s)

end Sys2Proof.Machine
end

