-- ==== Sys2Proof/Machine/CallCommands.lean ====
section
/-! DEFINITION. The Call group of section 10.2: PROCEED, CUT_THROUGH, PLAN_RELEASE, PLAN_DISCARD, FLASH_ACK, PURGE, LINE_RESET. -/

namespace Sys2Proof.Machine

/-- The checks that the call commands share: length 0, the line, the first row of R152. -/
def callCommand (p : PortId) (r : Request) (s : State) (rest : LineId → Reply × State) : Reply × State :=
  withLine r 0 s fun n => permitted (s.callPermission n p) s (rest n)

/-- The gate of a line opened, its auto-proceed timer stopped; the line may then request (R109, R112). -/
def State.openGate (s : State) (n : LineId) : State :=
  (s.updEs n fun e => { e with gate := true, autoTimer := none }).reviewRequest n

/-- PROCEED (R109). -/
def actProceed : Action := fun p r s =>
  callCommand p r s fun n =>
    if (s.line n).npw.stage = .idle then refuse .wrongState s
    else accept [flagOctet (s.line n).es.gate] (if (s.line n).es.gate then s else s.openGate n)

/-- The passage of CUT_THROUGH to CONVERSATION: every mark NONE (R103, R76). -/
def State.cutThrough (s : State) (n : LineId) : State :=
  ((s.remark n fun _ => .none).updNpw n NpwLine.toConversation).reviewRequest n

/-- CUT_THROUGH (R103). -/
def actCutThrough : Action := fun p r s =>
  callCommand p r s fun n =>
    match (s.line n).npw.stage with
    | .idle => refuse .wrongState s
    | .conversation => accept [octet Stage.conversation.code] s
    | .dialling => accept [octet Stage.dialling.code] (s.cutThrough n)
    | .rejected => accept [octet Stage.rejected.code] (s.cutThrough n)

/-- The line is in DIALLING with the held flag set (R97, R99). -/
def Line.onHold (l : Line) : Bool := l.npw.stage == .dialling && l.npw.held

/-- Step 1 of R97: the held flag is cleared, the HELD record becomes NONE, the walk stands at the saved node. -/
def State.endHold (s : State) (n : LineId) : State :=
  (s.updNpw n fun w => { w with held := false, node := w.savedNode }).remark n
    fun r => if r.mark = .held then .none else r.mark

/-- PLAN_RELEASE's work (R97), with the number of records re-walked. -/
def State.planRelease (s : State) (n : LineId) : Nat × State :=
  let s := s.endHold n
  let (k, t) := s.rewalk n ((s.line n).ds.queue.filter fun r => r.mark == .unwalked)
  (k, t.reviewRequest n)

/-- PLAN_RELEASE (R97). -/
def actPlanRelease : Action := fun p r s =>
  callCommand p r s fun n =>
    if (s.line n).onHold then
      let (k, t) := s.planRelease n
      accept [octet k] t
    else refuse .wrongState s

/-- PLAN_DISCARD's work (R99), on the split of the queue that R82 gives. -/
def State.planDiscard (s : State) (n : LineId) : State :=
  let split := splitAtHeld (s.line n).ds.queue
  let s := s.takeOff n split.1 split.2
  let s := s.updNpw n NpwLine.toRejected
  let s := s.send .planReject n 0 3 split.2.length
  s.reviewRequest n

/-- PLAN_DISCARD (R99). -/
def actPlanDiscard : Action := fun p r s =>
  callCommand p r s fun n =>
    if (s.line n).onHold then
      accept [octet (splitAtHeld (s.line n).ds.queue).2.length] (s.planDiscard n)
    else refuse .wrongState s

/-- FLASH_ACK (R33). -/
def actFlashAck : Action := fun p r s =>
  callCommand p r s fun n =>
    accept [flagOctet (s.line n).pd.flashMask] (s.updPd n fun d => { d with flashMask := false })

/-- PURGE (R79): a waiting line whose queue it empties is withdrawn (R113). -/
def actPurge : Action := fun p r s =>
  callCommand p r s fun n =>
    accept [octet (s.line n).ds.notEmitting.length] ((s.purgeWaiting n).reviewRequest n)

/-- LINE_RESET (R155). -/
def actLineReset : Action := fun p r s =>
  withLine r 0 s fun n =>
    permitted (s.servicePermission n p) s
      (accept [octet (s.line n).ds.queue.length] (s.lineReset n))

/-! ## The rows -/

/-- PROCEED (R109). -/
def execProceed (p : PortId) (t : Octet) (d : List Octet) (s : State) : Host.Outcome State Fault Refusal :=
  .next (takeRow actProceed p 0x30 t d s)

/-- CUT_THROUGH (R103). -/
def execCutThrough (p : PortId) (t : Octet) (d : List Octet) (s : State) : Host.Outcome State Fault Refusal :=
  .next (takeRow actCutThrough p 0x31 t d s)

/-- PLAN_RELEASE (R97). -/
def execPlanRelease (p : PortId) (t : Octet) (d : List Octet) (s : State) : Host.Outcome State Fault Refusal :=
  .next (takeRow actPlanRelease p 0x32 t d s)

/-- PLAN_DISCARD (R99). -/
def execPlanDiscard (p : PortId) (t : Octet) (d : List Octet) (s : State) : Host.Outcome State Fault Refusal :=
  .next (takeRow actPlanDiscard p 0x33 t d s)

/-- FLASH_ACK (R33). -/
def execFlashAck (p : PortId) (t : Octet) (d : List Octet) (s : State) : Host.Outcome State Fault Refusal :=
  .next (takeRow actFlashAck p 0x34 t d s)

/-- PURGE (R79). -/
def execPurge (p : PortId) (t : Octet) (d : List Octet) (s : State) : Host.Outcome State Fault Refusal :=
  .next (takeRow actPurge p 0x35 t d s)

/-- LINE_RESET (R155). -/
def execLineReset (p : PortId) (t : Octet) (d : List Octet) (s : State) : Host.Outcome State Fault Refusal :=
  .next (takeRow actLineReset p 0x36 t d s)

end Sys2Proof.Machine
end

