-- ==== Sys2Proof/Machine/Configuration.lean ====
section
/-! DEFINITION. The configuration commands: WRITE_PROFILE, WRITE_PLAN, and ASSIGN_PROFILE. -/

namespace Sys2Proof.Machine

/-- WRITE_PROFILE (R59, R60): the response carries the entry as it then stands, whether stored or refused at step 3 or
step 5. -/
def actWriteProfile : Action := fun _ r s =>
  withLength r 47 s
    (match entryOfOctet r.target with
     | none => refuse .range s
     | some i =>
       match Profile.ofOctets r.data with
       | none => (⟨.range, s.profiles[i].octets⟩, s)
       | some e =>
         if e.ordered then accept e.octets { s with profiles := s.profiles.set i e }
         else (⟨.range, s.profiles[i].octets⟩, s))

/-- WRITE_PLAN (R90): likewise, refused at step 3 or 4. -/
def actWritePlan : Action := fun _ r s =>
  withLength r 20 s
    (match nodeOfOctet r.target with
     | none => refuse .range s
     | some i =>
       match planNodeOfOctets r.data with
       | none => (⟨.range, planNodeOctets s.plan[i]⟩, s)
       | some node => accept (planNodeOctets node) { s with plan := s.plan.set i node })

/-- A line's profile index set, with P at P0 of the entry that it then selects (R66, R47). -/
def State.assignProfile (s : State) (n : LineId) (i : Fin 8) : State :=
  let s := s.updPt n fun t => { t with profileIndex := i }
  s.updPd n fun d => { d with period := (s.liveEntry n).periodInitial * 16 }

/-- ASSIGN_PROFILE (R66). -/
def actAssignProfile : Action := fun p r s =>
  withLine r 1 s fun n =>
    match entryOfOctet r.value with
    | none => refuse .range s
    | some i =>
      permitted (s.servicePermission n p) s
        (if (s.line n).npw.stage = .idle then accept [] (s.assignProfile n i) else refuse .wrongState s)

/-! ## The rows -/

/-- WRITE_PROFILE (R59). -/
def execWriteProfile (p : PortId) (t : Octet) (d : List Octet) (s : State) : Host.Outcome State Fault Refusal :=
  .next (takeRow actWriteProfile p 0x10 t d s)

/-- WRITE_PLAN (R90). -/
def execWritePlan (p : PortId) (t : Octet) (d : List Octet) (s : State) : Host.Outcome State Fault Refusal :=
  .next (takeRow actWritePlan p 0x11 t d s)

/-- ASSIGN_PROFILE (R66). -/
def execAssignProfile (p : PortId) (t : Octet) (d : List Octet) (s : State) : Host.Outcome State Fault Refusal :=
  .next (takeRow actAssignProfile p 0x25 t d s)

end Sys2Proof.Machine
end

