-- ==== Sys2Proof/Machine/Maintenance.lean ====
section
/-! DEFINITION. The Maintenance group of section 10.2 (chapter 11): test lines, patterns, the watch, the check record, the statistics, the part reset. -/

namespace Sys2Proof.Machine

/-- The checks of a maintenance command for a line: length 0, the line, port M. -/
def maintenanceLine (p : PortId) (r : Request) (s : State) (rest : LineId → Reply × State) : Reply × State :=
  withLine r 0 s fun n => onPortM p s (rest n)

/-- The checks of a maintenance command whose target is not examined: length 0, port M. -/
def maintenance (p : PortId) (r : Request) (s : State) (rest : Reply × State) : Reply × State :=
  withLength r 0 s (onPortM p s rest)

/-! ## Test lines -/

/-- A decoder in SEIZE_PENDING returns to LOOP_OPEN with the seize timer at 0 (R40). -/
def PdLine.enterTest (d : PdLine) : PdLine :=
  match d.state with
  | .seizePending => { d with state := .loopOpen, seizeTimer := 0 }
  | .loopOpen => d
  | .make => d
  | .brk => d
  | .makePending => d

/-- A line enters TEST (R178); nothing that the tick still owed it is done (R13, R40). -/
def State.testEnter (s : State) (n : LineId) : State :=
  s.updLine n fun l =>
    { l with
      ls := { l.ls with candidate := 0 }
      pd := l.pd.enterTest
      lat := { l.lat with service := .test, savedService := l.lat.service }
      mu := { l.mu with testLevel := some .brk }
      due := .nothing }

/-- TEST_ENTER (R178). -/
def actTestEnter : Action := fun p r s =>
  maintenanceLine p r s fun n =>
    if (s.line n).lat.service = .test ∨ (s.line n).npw.stage ≠ .idle then refuse .wrongState s
    else accept [octet (s.line n).lat.service.code] (s.testEnter n)

/-- A line leaves TEST: a line reset, which stops playback into the line, then the saved service state; the test level is
discarded, and the line is scan-fed from the next tick (R179, R13). A sample of this tick that has reached settle_count was
taken before the command, so its change is made first: the debounced state is the last one that the pattern produced (R13,
log 24). -/
def State.testExit (s : State) (n : LineId) : State :=
  ((s.debouncedChange n).lineReset n).updLine n fun l =>
    { l with
      lat := { l.lat with service := l.lat.savedService }
      mu := { l.mu with testLevel := none }
      due := .nothing }

/-- TEST_EXIT (R179). -/
def actTestExit : Action := fun p r s =>
  maintenanceLine p r s fun n =>
    if (s.line n).lat.service = .test then
      accept [octet (s.line n).ds.queue.length, octet (s.line n).lat.savedService.code] (s.testExit n)
    else refuse .wrongState s

/-! ## The dial pattern generator -/

/-- LOAD_PATTERN (R180). -/
def actLoadPattern : Action := fun p r s =>
  if r.length % 3 = 0 ∧ 3 ≤ r.length ∧ r.length ≤ 48 then
    match segmentsOfOctets r.data with
    | none => refuse .range s
    | some segs =>
      onPortM p s
        (if s.play.isSome then refuse .busy s
         else accept [octet segs.length] { s with pattern := some segs })
  else refuse .length s

/-- The sum of the durations of a pattern (R181). -/
def totalDuration (segs : List Segment) : Nat := (segs.map Segment.duration).sum

/-- START_PATTERN (R181). -/
def actStartPattern : Action := fun p r s =>
  maintenanceLine p r s fun n =>
    if s.play.isSome then refuse .busy s
    else if (s.line n).lat.service ≠ .test then refuse .wrongState s
    else
      match s.pattern with
      | none => refuse .wrongState s
      | some segs => accept (be16 (totalDuration segs)) { s with play := some ⟨n, 0, 0⟩ }

/-- ABORT_PATTERN (R182). -/
def actAbortPattern : Action := fun p r s =>
  maintenance p r s (accept [flagOctet s.play.isSome] { s with play := none })

/-! ## The watch, the check record, the statistics -/

/-- The selection that the target octet of WATCH makes: a line, or 255 for none (R184). -/
def watchOfOctet (t : Octet) : Option (Option LineId) :=
  if t = 255 then some none
  else
    match lineOfOctet t with
    | some n => some (some n)
    | none => none

/-- WATCH (R184). -/
def actWatch : Action := fun p r s =>
  withLength r 0 s
    (match watchOfOctet r.target with
     | none => refuse .range s
     | some selection =>
       onPortM p s (accept [lineOctet s.watched] { s with watched := selection, ring := [] }))

/-- READ_WATCH (R184). -/
def actReadWatch : Action := fun p r s =>
  maintenance p r s
    (accept ([lineOctet s.watched, octet s.ring.length] ++ s.ring.flatMap WatchEntry.octets) s)

/-- The check record as READ_CHECK returns it, 9 octets (R183). -/
def checkOctets : Option CheckRecord → List Octet
  | some c => [1, octet c.line.val, octet c.symbol.code] ++ be16 c.samples ++ be16 c.peak ++ be16 c.saturated
  | none => List.replicate 9 0

/-- READ_CHECK (R183). -/
def actReadCheck : Action := fun p r s => maintenance p r s (accept (checkOctets s.check) s)

/-- The statistics of a line in their order, 14 octets (R185). -/
def Statistics.octets (t : Statistics) : List Octet :=
  be16 t.pulses ++ be16 t.digits ++ be16 t.overcounts ++ be16 t.breakErrors ++ be16 t.glitches ++ be16 t.ratioFlags
    ++ be16 t.flashes

/-- READ_STATS (R185). -/
def actReadStats : Action := fun p r s =>
  maintenanceLine p r s fun n =>
    accept (s.line n).mu.stats.octets (s.updMu n fun m => { m with stats := {} })

/-! ## The part reset -/

/-- The event queue of a port emptied, with its lost count (R169). -/
def Port.discardEvents (q : Port) : Port := { q with queue := [], lost := 0 }

/-- A generator freed; its other values are not read again (R141). -/
def Generator.free (x : Generator) : Generator := { x with holder := none }

/-- The part reset (R186). Kept are the profile entries, the plan table, the timestamp and the frame counter, the frame
receivers, and what stands on the highways. -/
def State.partReset (s : State) : State :=
  { s with
    lines := Vector.replicate 32 (Line.afterReset s.profiles[0])
    missCount := 0
    scanLoss := false
    scanRequested := false
    freeList := List.finRange 256
    gens := Vector.ofFn fun g => s.gens[g].free
    waiting := []
    joining := []
    arbiterDue := false
    pattern := none
    play := none
    check := none
    watched := none
    ring := []
    portA := s.portA.discardEvents
    portB := s.portB.discardEvents
    portM := s.portM.discardEvents }

/-- PART_RESET (R186). -/
def actPartReset : Action := fun p r s => maintenance p r s (accept (be32 s.timestamp) s.partReset)

/-! ## The rows -/

/-- TEST_ENTER (R178). -/
def execTestEnter (p : PortId) (t : Octet) (d : List Octet) (s : State) : Host.Outcome State Fault Refusal :=
  .next (takeRow actTestEnter p 0x40 t d s)

/-- TEST_EXIT (R179). -/
def execTestExit (p : PortId) (t : Octet) (d : List Octet) (s : State) : Host.Outcome State Fault Refusal :=
  .next (takeRow actTestExit p 0x41 t d s)

/-- LOAD_PATTERN (R180). -/
def execLoadPattern (p : PortId) (t : Octet) (d : List Octet) (s : State) : Host.Outcome State Fault Refusal :=
  .next (takeRow actLoadPattern p 0x42 t d s)

/-- START_PATTERN (R181). -/
def execStartPattern (p : PortId) (t : Octet) (d : List Octet) (s : State) : Host.Outcome State Fault Refusal :=
  .next (takeRow actStartPattern p 0x43 t d s)

/-- ABORT_PATTERN (R182). -/
def execAbortPattern (p : PortId) (t : Octet) (d : List Octet) (s : State) : Host.Outcome State Fault Refusal :=
  .next (takeRow actAbortPattern p 0x44 t d s)

/-- WATCH (R184). -/
def execWatch (p : PortId) (t : Octet) (d : List Octet) (s : State) : Host.Outcome State Fault Refusal :=
  .next (takeRow actWatch p 0x45 t d s)

/-- READ_WATCH (R184). -/
def execReadWatch (p : PortId) (t : Octet) (d : List Octet) (s : State) : Host.Outcome State Fault Refusal :=
  .next (takeRow actReadWatch p 0x46 t d s)

/-- READ_CHECK (R183). -/
def execReadCheck (p : PortId) (t : Octet) (d : List Octet) (s : State) : Host.Outcome State Fault Refusal :=
  .next (takeRow actReadCheck p 0x47 t d s)

/-- READ_STATS (R185). -/
def execReadStats (p : PortId) (t : Octet) (d : List Octet) (s : State) : Host.Outcome State Fault Refusal :=
  .next (takeRow actReadStats p 0x48 t d s)

/-- PART_RESET (R186). -/
def execPartReset (p : PortId) (t : Octet) (d : List Octet) (s : State) : Host.Outcome State Fault Refusal :=
  .next (takeRow actPartReset p 0x4F t d s)

end Sys2Proof.Machine
end

