-- ==== Sys2Proof/Machine/Ownership.lean ====
section
/-! DEFINITION. Line ownership and service (chapter 9): CLAIM, RELINQUISH, TAKEOVER, TAKEOVER_ALL, ASSIGN, SET_SERVICE_IN, SET_SERVICE_OUT. -/

namespace Sys2Proof.Machine

/-- The owner that a call controller's port stands for; port M stands for none. -/
def ownerOf : PortId → Owner
  | .a => .a
  | .b => .b
  | .m => .none

/-- The peer of a port, as an owner (section 9.3). -/
def peerOf : PortId → Owner
  | .a => .b
  | .b => .a
  | .m => .none

/-- The causes of OWNER_CHANGE (R145). -/
inductive OwnerCause
  | relinquish
  | takeover
  | assign
  deriving DecidableEq, Repr

/-- R145. -/
def OwnerCause.code : OwnerCause → Nat
  | .relinquish => 0
  | .takeover => 1
  | .assign => 2

/-- arg1 of SNAPSHOT (R145). -/
def Line.snapshotArg (l : Line) : Nat :=
  l.npw.stage.code + (if l.npw.held then 4 else 0) + (if l.es.gate then 8 else 0) + (if l.pd.flashMask then 16 else 0)

/-- The OWNER_CHANGE record, to the old owner's port if it has one (R145). -/
def State.sendOwnerChange (s : State) (n : LineId) (old new : Owner) (cause : OwnerCause) : State :=
  match old.port with
  | some q => s.deliver q (s.event .ownerChange n 0 new.code cause.code)
  | none => s

/-- The SNAPSHOT record, to the new owner's port if it has one (R145). -/
def State.sendSnapshot (s : State) (n : LineId) (new : Owner) : State :=
  match new.port with
  | some q => s.deliver q (s.event .snapshot n (s.line n).pd.seq (s.line n).snapshotArg (s.line n).ds.queue.length)
  | none => s

/-- A change of owner: the epoch is incremented, then OWNER_CHANGE, then SNAPSHOT (R143, R145). -/
def State.changeOwner (s : State) (n : LineId) (new : Owner) (cause : OwnerCause) : State :=
  let old := (s.line n).lat.owner
  let s := s.updLat n fun a => { a with owner := new, epoch := a.epoch + 1 }
  (s.sendOwnerChange n old new cause).sendSnapshot n new

/-- CLAIM (R146): the epoch stands in the response also when the command is refused OWNED. -/
def actClaim : Action := fun p r s =>
  withLine r 0 s fun n =>
    if p = .m then refuse .wrongPort s
    else if (s.line n).lat.owner = .none then
      let t := s.changeOwner n (ownerOf p) .takeover
      accept [(t.line n).lat.epoch] t
    else if s.ownedBy n p then accept [(s.line n).lat.epoch] s
    else (⟨.owned, [(s.line n).lat.epoch]⟩, s)

/-- RELINQUISH (R147). -/
def actRelinquish : Action := fun p r s =>
  withLine r 0 s fun n =>
    if p = .m then refuse .wrongPort s
    else if s.ownedBy n p then
      let t := s.changeOwner n .none .relinquish
      accept [(t.line n).lat.epoch] t
    else refuse .notOwner s

/-- The lines that the peer of a port owns, in line order (R149). -/
def State.peerLines (s : State) (p : PortId) : List LineId := allLines.filter fun n => (s.line n).lat.owner == peerOf p

/-- TAKEOVER (R148), and with the target 255 of every line of the peer, in line order (R149). -/
def actTakeover : Action := fun p r s =>
  withLength r 0 s
    (if r.target = 255 then
       if p = .m then refuse .wrongPort s
       else
         accept [octet (s.peerLines p).length]
           ((s.peerLines p).foldl (fun t n => t.changeOwner n (ownerOf p) .takeover) s)
     else
       match lineOfOctet r.target with
       | none => refuse .range s
       | some n =>
         if p = .m then refuse .wrongPort s
         else if s.ownedBy n p then accept [0] s
         else accept [1] (s.changeOwner n (ownerOf p) .takeover))

/-- ASSIGN (R151). -/
def actAssign : Action := fun p r s =>
  withLine r 1 s fun n =>
    match Owner.ofOctet r.value with
    | none => refuse .range s
    | some new =>
      onPortM p s
        (accept [octet (s.line n).lat.owner.code]
          (if (s.line n).lat.owner = new then s else s.changeOwner n new .assign))

/-- SET_SERVICE OUT on a line that is in service: a line reset, then the service state (R153). -/
def State.serviceOut (s : State) (n : LineId) : State :=
  if (s.line n).lat.service = .inService then
    (s.lineReset n).updLat n fun a => { a with service := .outOfService }
  else s

/-- SET_SERVICE IN on a line that is out of service (R153). -/
def State.serviceIn (s : State) (n : LineId) : State :=
  if (s.line n).lat.service = .outOfService then s.updLat n fun a => { a with service := .inService } else s

/-- SET_SERVICE (R153). -/
def actSetService : Action := fun p r s =>
  withLine r 1 s fun n =>
    if 1 < r.value.toNat then refuse .range s
    else if (s.line n).lat.service = .test then refuse .wrongState s
    else
      permitted (s.servicePermission n p) s
        (accept [octet (s.line n).lat.service.code] (if r.value = 0 then s.serviceOut n else s.serviceIn n))

/-! ## The rows -/

/-- CLAIM (R146). -/
def execClaim (p : PortId) (t : Octet) (d : List Octet) (s : State) : Host.Outcome State Fault Refusal :=
  .next (takeRow actClaim p 0x20 t d s)

/-- RELINQUISH (R147). -/
def execRelinquish (p : PortId) (t : Octet) (d : List Octet) (s : State) : Host.Outcome State Fault Refusal :=
  .next (takeRow actRelinquish p 0x21 t d s)

/-- TAKEOVER of one line (R148). -/
def execTakeover (p : PortId) (t : Octet) (d : List Octet) (s : State) : Host.Outcome State Fault Refusal :=
  .next (takeRow actTakeover p 0x22 t d s)

/-- TAKEOVER with the target 255 (R149). -/
def execTakeoverAll (p : PortId) (d : List Octet) (s : State) : Host.Outcome State Fault Refusal :=
  .next (takeRow actTakeover p 0x22 255 d s)

/-- ASSIGN (R151). -/
def execAssign (p : PortId) (t : Octet) (d : List Octet) (s : State) : Host.Outcome State Fault Refusal :=
  .next (takeRow actAssign p 0x23 t d s)

/-- SET_SERVICE with the data octet 1 (R153). -/
def execSetServiceIn (p : PortId) (t : Octet) (d : List Octet) (s : State) : Host.Outcome State Fault Refusal :=
  .next (takeRow actSetService p 0x24 t d s)

/-- SET_SERVICE with the data octet 0 (R153). -/
def execSetServiceOut (p : PortId) (t : Octet) (d : List Octet) (s : State) : Host.Outcome State Fault Refusal :=
  .next (takeRow actSetService p 0x24 t d s)

end Sys2Proof.Machine
end

