-- ==== Sys2Proof/Machine/Reading.lean ====
section
/-! DEFINITION. The Reading group of section 10.2: NOP, READ_LINE, PEEK_QUEUE, READ_EVENTS, READ_PROFILE, READ_PLAN, READ_POOL. -/

namespace Sys2Proof.Machine

/-- NOP (R162). -/
def actNop : Action := fun p r s =>
  withLength r 0 s (accept [octet (s.port p).queue.length, octet (s.port p).lost] s)

/-- The line summary, 21 octets (R177). -/
def Line.summary (l : Line) : List Octet :=
  [octet l.lat.service.code, octet l.lat.owner.code, l.lat.epoch, octet l.pt.profileIndex.val, octet l.npw.stage.code,
    flagOctet l.npw.held, flagOctet l.npw.completePending, octet l.pd.state.code, flagOctet l.pd.inDigit,
    octet l.pd.pulseCount]
  ++ be16 l.pd.period
  ++ [flagOctet l.es.gate, octet l.es.emission.code, octet l.ds.queue.length, octet l.npw.node.val, octet l.npw.walked,
    flagOctet l.pd.flashMask, octet l.ls.faultKind.code, flagOctet l.ls.faultLatch, l.pd.seq]

/-- READ_LINE (R163): the summary, and then the fault latch is cleared when the issuing port is the one that receives the
line's events (R8). -/
def actReadLine : Action := fun p r s =>
  withLine r 0 s fun n =>
    accept (s.line n).summary
      (if p = s.eventPort n then s.updLs n fun l => { l with faultLatch := false } else s)

/-- The queue of a line as PEEK_QUEUE returns it (R84, R175). -/
def DsLine.octets (d : DsLine) : List Octet :=
  [octet d.queue.length, flagOctet d.inEmission] ++ d.queue.flatMap DigitRecord.octets

/-- PEEK_QUEUE (R84). -/
def actPeekQueue : Action := fun _ r s => withLine r 0 s fun n => accept (s.line n).ds.octets s

/-- READ_EVENTS (R167). -/
def actReadEvents : Action := fun p r s =>
  withLength r 1 s
    (let n := r.value.toNat
     if 1 ≤ n ∧ n ≤ 16 then
       accept (octet (s.port p).lost :: ((s.port p).queue.take n).flatMap Event.octets)
         (s.updPort p fun q => { q with queue := q.queue.drop n, lost := 0 })
     else refuse .range s)

/-- READ_PROFILE (R62). -/
def actReadProfile : Action := fun _ r s =>
  withLength r 0 s
    (match entryOfOctet r.target with
     | some i => accept s.profiles[i].octets s
     | none => refuse .range s)

/-- READ_PLAN (R91). -/
def actReadPlan : Action := fun _ r s =>
  withLength r 0 s
    (match nodeOfOctet r.target with
     | some i => accept (planNodeOctets s.plan[i]) s
     | none => refuse .range s)

/-- READ_POOL (R164). -/
def actReadPool : Action := fun _ r s =>
  withLength r 0 s
    (accept
      (be16 s.freeList.length ++ allGenerators.map (fun g => lineOctet (s.gen g).holder)
        ++ octet s.waitingList.length :: s.waitingList.map fun n => octet n.val)
      s)

/-! ## The rows -/

/-- NOP (R162). -/
def execNop (p : PortId) (t : Octet) (d : List Octet) (s : State) : Host.Outcome State Fault Refusal :=
  .next (takeRow actNop p 0x00 t d s)

/-- READ_LINE (R163). -/
def execReadLine (p : PortId) (t : Octet) (d : List Octet) (s : State) : Host.Outcome State Fault Refusal :=
  .next (takeRow actReadLine p 0x01 t d s)

/-- PEEK_QUEUE (R84). -/
def execPeekQueue (p : PortId) (t : Octet) (d : List Octet) (s : State) : Host.Outcome State Fault Refusal :=
  .next (takeRow actPeekQueue p 0x02 t d s)

/-- READ_EVENTS (R167). -/
def execReadEvents (p : PortId) (t : Octet) (d : List Octet) (s : State) : Host.Outcome State Fault Refusal :=
  .next (takeRow actReadEvents p 0x03 t d s)

/-- READ_PROFILE (R62). -/
def execReadProfile (p : PortId) (t : Octet) (d : List Octet) (s : State) : Host.Outcome State Fault Refusal :=
  .next (takeRow actReadProfile p 0x04 t d s)

/-- READ_PLAN (R91). -/
def execReadPlan (p : PortId) (t : Octet) (d : List Octet) (s : State) : Host.Outcome State Fault Refusal :=
  .next (takeRow actReadPlan p 0x05 t d s)

/-- READ_POOL (R164). -/
def execReadPool (p : PortId) (t : Octet) (d : List Octet) (s : State) : Host.Outcome State Fault Refusal :=
  .next (takeRow actReadPool p 0x06 t d s)

end Sys2Proof.Machine
end

