-- ==== Sys2Proof/Machine/PortFrames.lean ====
section
/-! DEFINITION. The octets of a control frame (R158, R159): the command code table (R173) and the row OCTET_TIME. -/

namespace Sys2Proof.Machine

/-- The action of a command octet: the table of R173, and UNKNOWN for every code that is not in it (R161). -/
def actionOf (code : Octet) : Action :=
  match code.toNat with
  | 0x00 => actNop
  | 0x01 => actReadLine
  | 0x02 => actPeekQueue
  | 0x03 => actReadEvents
  | 0x04 => actReadProfile
  | 0x05 => actReadPlan
  | 0x06 => actReadPool
  | 0x10 => actWriteProfile
  | 0x11 => actWritePlan
  | 0x20 => actClaim
  | 0x21 => actRelinquish
  | 0x22 => actTakeover
  | 0x23 => actAssign
  | 0x24 => actSetService
  | 0x25 => actAssignProfile
  | 0x30 => actProceed
  | 0x31 => actCutThrough
  | 0x32 => actPlanRelease
  | 0x33 => actPlanDiscard
  | 0x34 => actFlashAck
  | 0x35 => actPurge
  | 0x36 => actLineReset
  | 0x40 => actTestEnter
  | 0x41 => actTestExit
  | 0x42 => actLoadPattern
  | 0x43 => actStartPattern
  | 0x44 => actAbortPattern
  | 0x45 => actWatch
  | 0x46 => actReadWatch
  | 0x47 => actReadCheck
  | 0x48 => actReadStats
  | 0x4F => actPartReset
  | _ => actUnknown

/-- The request buffer with one more octet: the command octet, the target octet, L, then the data octets, of which all are
counted and the first 80 kept (R158, R159). -/
def RequestBuffer.push (b : RequestBuffer) (o : Octet) : RequestBuffer :=
  match b.command, b.target, b.length with
  | none, _, _ => { b with command := some o }
  | some _, none, _ => { b with target := some o }
  | some _, some _, none => { b with length := some o }
  | some _, some _, some _ =>
    { b with
      data := if b.data.length < Config.requestDataKept then b.data ++ [o] else b.data
      counted := b.counted + 1 }

/-- The request, once the last request octet has arrived: the last data octet, or the length octet when L is 0 (R159). -/
def RequestBuffer.complete (b : RequestBuffer) : Option Request :=
  match b.command, b.target, b.length with
  | some c, some t, some l => if l.toNat ≤ b.counted then some ⟨c, t, l.toNat, b.data⟩ else none
  | _, _, _ => none

/-- The octets of a response, in order: status, R, and the R response octets (R158). -/
def ResponseBuffer.octets (w : ResponseBuffer) : List Octet := octet w.status.code :: octet w.data.length :: w.data

/-- One octet time of RESPONSE: the next octet is driven, and the receiver enters TRAILER after the last (R158). -/
def Port.drive (q : Port) : Port :=
  match q.response with
  | none => q
  | some w =>
    { q with
      driven := w.octets[w.sent]?
      response := some { w with sent := w.sent + 1 }
      receiver := if w.sent + 1 < w.octets.length then .response else .trailer }

/-- One octet time on a port (R158): in REQUEST an octet is taken in against 0xFF, and the command is taken at the last; in
RESPONSE the master's octet is ignored; in TRAILER 0xFF is driven; outside a frame nothing is taken. -/
def State.octetTime (s : State) (p : PortId) (o : Octet) : State :=
  match (s.port p).receiver with
  | .idle => s
  | .request =>
    let b := (s.port p).request.push o
    match b.complete with
    | some r => take (actionOf r.command) p r s
    | none => s.updPort p fun q => { q with request := b, driven := some 0xFF }
  | .response => s.updPort p Port.drive
  | .trailer => s.updPort p fun q => { q with driven := some 0xFF }

/-- OCTET_TIME (R158). -/
def execOctetTime (p : PortId) (o : Octet) (s : State) : Host.Outcome State Fault Refusal := .next (s.octetTime p o)

end Sys2Proof.Machine
end

