-- ==== Sys2Proof/Machine/Resets.lean ====
section
/-! DEFINITION. Power-on reset: the row POWER_ON_RESET. -/

namespace Sys2Proof.Machine

/-- A port after power-on reset: the master's select line stays as it drives it, and a select that is low is treated as
high until it has risen once (R158, R169). -/
def Port.powerOn (q : Port) : Port := { selectLow := q.selectLow, ignoreSelect := q.selectLow }

/-- Power-on reset, from any state: all of it at its reset values; the levels that the masters drive on the select lines,
and the commands that wait, are not the part's (log 11). -/
def State.powerOn (s : State) : State :=
  { State.reset with
    portA := s.portA.powerOn
    portB := s.portB.powerOn
    portM := s.portM.powerOn
    pending := s.pending }

/-- POWER_ON_RESET (R130): the pin is asserted and released (log 11). -/
def execPowerOnReset (s : State) : Host.Outcome State Fault Refusal := .next s.powerOn

end Sys2Proof.Machine
end

