-- ==== Sys2Proof/Machine/Dispatch.lean ====
section
/-! DEFINITION. The dispatch of a command to its meaning: one arm for each constructor of Instr. -/

namespace Sys2Proof.Machine

/-- The effect of a command on the state. -/
def exec (i : Instr) (s : State) : Host.Outcome State Fault Refusal :=
  match i with
  | .powerOnReset => Sys2Proof.Machine.execPowerOnReset s
  | .frameBoundary down up => Sys2Proof.Machine.execFrameBoundary down up s
  | .tickBoundary down up => Sys2Proof.Machine.execTickBoundary down up s
  | .goodFrame f => Sys2Proof.Machine.execGoodFrame f s
  | .missedFrame => Sys2Proof.Machine.execMissedFrame s
  | .scanLoss => Sys2Proof.Machine.execScanLoss s
  | .debouncedStateChange n => Sys2Proof.Machine.execDebouncedStateChange n s
  | .seizure n => Sys2Proof.Machine.execSeizure n s
  | .makeConfirmed n => Sys2Proof.Machine.execMakeConfirmed n s
  | .digitComplete n => Sys2Proof.Machine.execDigitComplete n s
  | .release n => Sys2Proof.Machine.execRelease n s
  | .dialTimeout n => Sys2Proof.Machine.execDialTimeout n s
  | .autoProceedExpiry n => Sys2Proof.Machine.execAutoProceedExpiry n s
  | .generatorGrant => Sys2Proof.Machine.execGeneratorGrant s
  | .onPhaseEnd n => Sys2Proof.Machine.execOnPhaseEnd n s
  | .offPhaseEnd n => Sys2Proof.Machine.execOffPhaseEnd n s
  | .patternSegmentAdvance => Sys2Proof.Machine.execPatternSegmentAdvance s
  | .patternDone => Sys2Proof.Machine.execPatternDone s
  | .frameBegin p => Sys2Proof.Machine.execFrameBegin p s
  | .frameEnd p => Sys2Proof.Machine.execFrameEnd p s
  | .unknownCommand p c t d => Sys2Proof.Machine.execUnknownCommand p c t d s
  | .nop p t d => Sys2Proof.Machine.execNop p t d s
  | .readLine p t d => Sys2Proof.Machine.execReadLine p t d s
  | .peekQueue p t d => Sys2Proof.Machine.execPeekQueue p t d s
  | .readEvents p t d => Sys2Proof.Machine.execReadEvents p t d s
  | .readProfile p t d => Sys2Proof.Machine.execReadProfile p t d s
  | .readPlan p t d => Sys2Proof.Machine.execReadPlan p t d s
  | .readPool p t d => Sys2Proof.Machine.execReadPool p t d s
  | .writeProfile p t d => Sys2Proof.Machine.execWriteProfile p t d s
  | .writePlan p t d => Sys2Proof.Machine.execWritePlan p t d s
  | .claim p t d => Sys2Proof.Machine.execClaim p t d s
  | .relinquish p t d => Sys2Proof.Machine.execRelinquish p t d s
  | .takeover p t d => Sys2Proof.Machine.execTakeover p t d s
  | .takeoverAll p d => Sys2Proof.Machine.execTakeoverAll p d s
  | .assign p t d => Sys2Proof.Machine.execAssign p t d s
  | .setServiceIn p t d => Sys2Proof.Machine.execSetServiceIn p t d s
  | .setServiceOut p t d => Sys2Proof.Machine.execSetServiceOut p t d s
  | .assignProfile p t d => Sys2Proof.Machine.execAssignProfile p t d s
  | .proceed p t d => Sys2Proof.Machine.execProceed p t d s
  | .cutThrough p t d => Sys2Proof.Machine.execCutThrough p t d s
  | .planRelease p t d => Sys2Proof.Machine.execPlanRelease p t d s
  | .planDiscard p t d => Sys2Proof.Machine.execPlanDiscard p t d s
  | .flashAck p t d => Sys2Proof.Machine.execFlashAck p t d s
  | .purge p t d => Sys2Proof.Machine.execPurge p t d s
  | .lineReset p t d => Sys2Proof.Machine.execLineReset p t d s
  | .testEnter p t d => Sys2Proof.Machine.execTestEnter p t d s
  | .testExit p t d => Sys2Proof.Machine.execTestExit p t d s
  | .loadPattern p t d => Sys2Proof.Machine.execLoadPattern p t d s
  | .startPattern p t d => Sys2Proof.Machine.execStartPattern p t d s
  | .abortPattern p t d => Sys2Proof.Machine.execAbortPattern p t d s
  | .watch p t d => Sys2Proof.Machine.execWatch p t d s
  | .readWatch p t d => Sys2Proof.Machine.execReadWatch p t d s
  | .readCheck p t d => Sys2Proof.Machine.execReadCheck p t d s
  | .readStats p t d => Sys2Proof.Machine.execReadStats p t d s
  | .partReset p t d => Sys2Proof.Machine.execPartReset p t d s
  | .octetTime p o => Sys2Proof.Machine.execOctetTime p o s

end Sys2Proof.Machine
end

