-- ==== Sys2Proof/Machine/Step.lean ====
section
/-! DEFINITION. One step of the machine: the command at the front of the queue. -/

namespace Sys2Proof.Machine

/-- The state with a command put at the front of its queue. -/
def State.queueFront (s : State) (c : Instr) : State := { s with pending := c :: s.pending }

/-- The command at the front of the queue is taken from it and executed; with an empty queue the block idles (log 22). -/
def step (s : State) : Host.Outcome State Fault Refusal :=
  match s.pending with
  | [] => .next s
  | c :: rest => exec c { s with pending := rest }

/-- The state with the command that a word spells put at the front of its queue; unchanged where the word spells none
(log 23). -/
def State.withFetchWord (s : State) (nbits w : Nat) : State :=
  match decodeTableWord nbits w with
  | some c => s.queueFront c
  | none => s

end Sys2Proof.Machine
end

