-- ==== Sys2Proof/Safety.lean ====
section
/-! DEFINITION. What stays true of the state from one step to the next: the invariants that the manual states. -/

namespace Sys2Proof.Machine

/-- The three ports. -/
def allPorts : List PortId := [.a, .b, .m]

/-- A value lies in a range lo..hi. -/
def within (lo hi n : Nat) : Bool := decide (lo ≤ n) && decide (n ≤ hi)

/-- Every field of an entry lies in its range, and the orders hold (R58). -/
def Profile.valid (e : Profile) : Bool :=
  within 1 255 e.makeThreshold && within 0 254 e.breakThreshold && within 1 8 e.settleCount
    && within 10 500 e.seizeTime && within 10 80 e.breakMin && within 40 200 e.breakMax && within 5 60 e.makeMin
    && within 100 1500 e.flashMin && within 200 2000 e.flashMax && within 60 160 e.periodInitial
    && within 6 24 e.interdigitFactor && within 100 1000 e.interdigitMin && within 30 70 e.ratioLow
    && within 55 90 e.ratioHigh && within 1 32 e.queueLimit && within 0 63 e.planRoot && within 0 10000 e.autoProceed
    && within 1000 30000 e.endTimeout && within 40 200 e.toneOn && within 40 500 e.toneOff
    && within 0 32767 e.levelLow && within 0 32767 e.levelHigh && e.ordered

/-- Every entry and every snapshot is valid (R58, R63), and every period estimate lies in its range (R46). -/
def ProfilesValid (s : State) : Prop :=
  (∀ i : Fin 8, s.profiles[i].valid = true)
    ∧ ∀ n : LineId, (s.snapshot n).valid = true ∧ within Config.periodMin Config.periodMax (s.line n).pd.period = true

/-- No event queue holds more than 64 records and no lost count exceeds 255 (R165). -/
def EventQueuesBounded (s : State) : Prop :=
  ∀ p ∈ allPorts, (s.port p).queue.length ≤ 64 ∧ (s.port p).lost ≤ 255

/-- What R158 and R159 keep of a port's request buffer: the first 80 of the data octets counted are kept, no data octet is
counted before the length octet, and in REQUEST fewer than L data octets have been counted, since the command is taken with
the last. -/
def Port.requestSound (q : Port) : Prop :=
  q.request.data.length = min 80 q.request.counted
    ∧ (q.request.length = none → q.request.data = [] ∧ q.request.counted = 0)
    ∧ (q.receiver = .request → ∀ l : Octet, q.request.length = some l → q.request.counted < l.toNat)

/-- The request buffers of the three ports are as R158 and R159 leave them. -/
def RequestBuffersSound (s : State) : Prop := ∀ p : PortId, (s.port p).requestSound

/-- The numbers of the records on the free list and on the lines' queues. -/
def State.recordNumbers (s : State) : List (Fin 256) :=
  s.freeList ++ allLines.flatMap fun n => (s.line n).ds.queue.map DigitRecord.number

/-- Every one of the 256 records is either on the free list or on exactly one line's queue, once (R71). -/
def StoreConserved (s : State) : Prop := s.recordNumbers.Perm (List.finRange 256)

/-- What R87 says of one line: the decoder of a line in IDLE is in LOOP_OPEN or SEIZE_PENDING, and no other is; held and
complete-pending are set only in DIALLING and never both; a line in IDLE has an empty queue, a closed gate, no auto-proceed
timer and no emission. -/
def Line.callConsistent (l : Line) : Bool :=
  ((l.npw.stage == .idle) == (l.pd.state == .loopOpen || l.pd.state == .seizePending))
    && (!(l.npw.held || l.npw.completePending) || l.npw.stage == .dialling)
    && !(l.npw.held && l.npw.completePending)
    && (l.npw.stage != .idle
      || (l.ds.queue.isEmpty && !l.es.gate && l.es.autoTimer.isNone && l.es.emission == .idle))

/-- R87, for every line. -/
def CallsConsistent (s : State) : Prop := ∀ n : LineId, (s.line n).callConsistent = true

/-- The pool and the waiting list agree with the lines: a line holds a generator exactly while it is in TONE_ON, and then
that generator is held by it (R114); the in-emission flag is set exactly in TONE_ON (R77); the waiting list holds exactly the
lines in WAITING_GEN, each once (R112). -/
def PoolConsistent (s : State) : Prop :=
  (∀ n : LineId, ∀ g : Fin 8, (s.line n).es.generator = some g ↔ (s.gen g).holder = some n)
    ∧ (∀ n : LineId, ((s.line n).es.emission = .toneOn ↔ (s.line n).es.generator.isSome = true)
        ∧ ((s.line n).ds.inEmission = true ↔ (s.line n).es.emission = .toneOn))
    ∧ s.waitingList.Nodup
    ∧ ∀ n : LineId, n ∈ s.waitingList ↔ (s.line n).es.emission = .waitingGen

/-- What chapter 11 keeps for test lines and patterns: a line has a test level exactly while it is in TEST, and the service
state saved for it is never TEST (R178, R179); a loaded pattern has a segment (R180); playback stands within the loaded
pattern and feeds a line in TEST (R181, R182). -/
def TestLinesSound (s : State) : Prop :=
  (∀ n : LineId, (s.line n).lat.savedService ≠ .test
      ∧ ((s.line n).lat.service = .test ↔ (s.line n).mu.testLevel.isSome = true))
    ∧ s.pattern ≠ some []
    ∧ ∀ pl : Playback, s.play = some pl →
        (s.line pl.line).lat.service = .test ∧ ∃ segs : List Segment, s.pattern = some segs ∧ pl.segment < segs.length

end Sys2Proof.Machine
end

