-- ==== Sys2Proof/WellFormed.lean ====
section
/-! DEFINITION. What makes a command well formed: the operands are such as the row and the wire form of a request admit. -/

namespace Sys2Proof

/-- Whether a command's operands are such as its row admits. A request has at most 255 data octets, since L is one octet
(R158); a good frame opens with the marker (R1); an unknown command's code is not in the table of R173; TAKEOVER names one
line, not 255 (R148); a SET_SERVICE request with the one data octet 0 is SET_SERVICE_OUT and every other is SET_SERVICE_IN,
those with a bad length or value among them (R153). -/
def Instr.wellFormed : Instr → Bool
  | .powerOnReset => true
  | .frameBoundary _ _ => true
  | .tickBoundary _ _ => true
  | .goodFrame f => f[0] == Config.scanMarker
  | .missedFrame => true
  | .scanLoss => true
  | .debouncedStateChange _ => true
  | .seizure _ => true
  | .makeConfirmed _ => true
  | .digitComplete _ => true
  | .release _ => true
  | .dialTimeout _ => true
  | .autoProceedExpiry _ => true
  | .generatorGrant => true
  | .onPhaseEnd _ => true
  | .offPhaseEnd _ => true
  | .patternSegmentAdvance => true
  | .patternDone => true
  | .frameBegin _ => true
  | .frameEnd _ => true
  | .unknownCommand _ c _ d => !definedCodes.contains c && decide (d.length ≤ 255)
  | .nop _ _ d => decide (d.length ≤ 255)
  | .readLine _ _ d => decide (d.length ≤ 255)
  | .peekQueue _ _ d => decide (d.length ≤ 255)
  | .readEvents _ _ d => decide (d.length ≤ 255)
  | .readProfile _ _ d => decide (d.length ≤ 255)
  | .readPlan _ _ d => decide (d.length ≤ 255)
  | .readPool _ _ d => decide (d.length ≤ 255)
  | .writeProfile _ _ d => decide (d.length ≤ 255)
  | .writePlan _ _ d => decide (d.length ≤ 255)
  | .claim _ _ d => decide (d.length ≤ 255)
  | .relinquish _ _ d => decide (d.length ≤ 255)
  | .takeover _ t d => t != 255 && decide (d.length ≤ 255)
  | .takeoverAll _ d => decide (d.length ≤ 255)
  | .assign _ _ d => decide (d.length ≤ 255)
  | .setServiceIn _ _ d => d != [0] && decide (d.length ≤ 255)
  | .setServiceOut _ _ d => d == [0]
  | .assignProfile _ _ d => decide (d.length ≤ 255)
  | .proceed _ _ d => decide (d.length ≤ 255)
  | .cutThrough _ _ d => decide (d.length ≤ 255)
  | .planRelease _ _ d => decide (d.length ≤ 255)
  | .planDiscard _ _ d => decide (d.length ≤ 255)
  | .flashAck _ _ d => decide (d.length ≤ 255)
  | .purge _ _ d => decide (d.length ≤ 255)
  | .lineReset _ _ d => decide (d.length ≤ 255)
  | .testEnter _ _ d => decide (d.length ≤ 255)
  | .testExit _ _ d => decide (d.length ≤ 255)
  | .loadPattern _ _ d => decide (d.length ≤ 255)
  | .startPattern _ _ d => decide (d.length ≤ 255)
  | .abortPattern _ _ d => decide (d.length ≤ 255)
  | .watch _ _ d => decide (d.length ≤ 255)
  | .readWatch _ _ d => decide (d.length ≤ 255)
  | .readCheck _ _ d => decide (d.length ≤ 255)
  | .readStats _ _ d => decide (d.length ≤ 255)
  | .partReset _ _ d => decide (d.length ≤ 255)
  | .octetTime _ _ => true

end Sys2Proof
end

