-- ==== Sys2Proof/Certificates/Slice0/Obligations.lean ====
section
/-! DEFINITION. The statements for the provers. -/

/- In every statement about a row that works the line contexts, `u` is the state after the arbiter's work, where that is
still due at the latest frame boundary (R115): `u = s.boundaryFirst`, which is `s` itself when nothing is due. -/

namespace Sys2Proof.Machine

/-- The state after a command has been taken on a port, when its action left `t` and replied with this status and these
octets (R159): the port holds the response, none of it driven, and is in RESPONSE. That a row of the command set is the whole
request frame, with select low and the request in the buffer whatever frame stood on the port before, is the model's choice
(log 12). -/
def answered (p : PortId) (r : Request) (status : Status) (data : List Octet) (t : State) : State :=
  t.updPort p fun q =>
    { q with
      receiver := .response
      request :=
        { command := some r.command, target := some r.target, length := some (octet r.length), data := r.data
          counted := r.length }
      response := some { status := status, data := data, sent := 0 }
      selectLow := true
      ignoreSelect := false
      driven := some 0xFF }

/-- The octet that names a line as a target. -/
def lineTarget (n : LineId) : Octet := BitVec.ofNat 8 n.val

/-- The data length that the table of R173 gives a command code; none for LOAD_PATTERN, which allows several, and for a code
that is not in the table. -/
def requiredLength (code : Octet) : Option Nat :=
  if code ∈ [0x00, 0x01, 0x02, 0x04, 0x05, 0x06, 0x20, 0x21, 0x22, 0x30, 0x31, 0x32, 0x33, 0x34, 0x35, 0x36, 0x40, 0x41,
      0x43, 0x44, 0x45, 0x46, 0x47, 0x48, 0x4F] then some 0
  else if code ∈ [0x03, 0x23, 0x24, 0x25] then some 1
  else if code = 0x10 then some 47
  else if code = 0x11 then some 20
  else none

/-- The codes whose target is a line (R173); TAKEOVER and WATCH also allow 255. -/
def lineCodes : List Octet :=
  [0x01, 0x02, 0x20, 0x21, 0x22, 0x23, 0x24, 0x25, 0x30, 0x31, 0x32, 0x33, 0x34, 0x35, 0x36, 0x40, 0x41, 0x43, 0x45, 0x48]

/-- The codes of the call commands of the first row of R152. -/
def callCodes : List Octet := [0x30, 0x31, 0x32, 0x33, 0x34, 0x35]

/-- A line after a line reset (R155), P aside: decoder, walk, queue, emission and latch cleared; loop state, candidate count,
fault kind, snapshot, profile index, LAT's part, test level and statistics kept. The sampler's work of the tick is still to
be done (R15); that what the decoder was still to do at the tick is dropped is the model's reading (log 24). -/
def lineAfterReset (l : Line) (p0 : Nat) : Line :=
  { l with
    ls := { l.ls with faultLatch := false }
    pd :=
      { state := .loopOpen, seizeTimer := 0, breakTimer := 0, makeTimer := 0, inDigit := false, pulseCount := 0, mPrev := 0
        b := 0, flags := { ratioLow := false, ratioHigh := false, bounce := false }, tId := none, period := p0
        flashMask := false, seq := 0 }
    npw :=
      { stage := .idle, held := false, completePending := false, node := 0, savedNode := 0, walked := 0, digitSeen := false
        timer := none }
    ds := { queue := [], inEmission := false }
    es := { gate := false, autoTimer := none, emission := .idle, remaining := 0, generator := none }
    due :=
      match l.due with
      | .scan params => .scan params
      | .change => .change
      | .nothing => .nothing
      | .limits => .nothing
      | .release => .nothing }

/-- What a line gives up when its call is ended by release or line reset: the records of its queue go to the free list,
oldest first (R71); a burst frees its generator, and a waiting line leaves the list (R120). -/
def givenUp (u : State) (n : LineId) : State :=
  let t := { u with freeList := u.freeList ++ (u.line n).ds.queue.map DigitRecord.number }
  match (u.line n).es.emission with
  | .idle => t
  | .waitingGen => { t with waiting := t.waiting.filter (· != n), joining := t.joining.filter (· != n) }
  | .toneOn =>
    match (u.line n).es.generator with
    | some g => t.updGen g fun x => { x with holder := none }
    | none => t
  | .toneOff => t

/-- Playback into a line stops (R182). -/
def playbackStopped (u : State) (n : LineId) : State :=
  { u with play := u.play.filter fun pl => pl.line != n }

/-- The state after rows are executed in turn; a row that stops changes nothing. -/
def afterRows (rows : List Instr) (s : State) : State :=
  rows.foldl (fun t c => match exec c t with | .next u => u | .fault _ => t | .refused _ => t) s

end Sys2Proof.Machine

open Sys2Proof Sys2Proof.Machine

/-! ## The machine -/

/-- A step executes the command at the front of the queue on the state with the queue's rest. With an empty queue the block
idles (the model's choice, log 22). -/
def Obligations.StepExecutesTheFrontCommand : Prop :=
  (∀ (c : Instr) (rest : List Instr) (s : State),
      step { s with pending := c :: rest } = exec c { s with pending := rest })
    ∧ ∀ s : State, s.pending = [] → step s = .next s

/-- After POWER_ON_RESET every block holds its reset values, from any state: lines, tables, store, pool, highway, maintenance
unit and ports. The levels that the masters drive on select stay; a low one is ignored until it has risen (R158). The
values of the generators, which R141 leaves open, are the model's (log 14); that the waiting commands stay is the model's
(log 11). -/
def Obligations.PowerOnResetSetsEveryBlock : Prop :=
  ∀ s : State, ∃ t : State, exec .powerOnReset s = .next t
    ∧ (∀ n : LineId,
        t.line n =
          { ls := { loop := .opened, candidate := 0, faultKind := .none, faultLatch := false }
            pd :=
              { state := .loopOpen, seizeTimer := 0, breakTimer := 0, makeTimer := 0, inDigit := false, pulseCount := 0
                mPrev := 0, b := 0, flags := { ratioLow := false, ratioHigh := false, bounce := false }, tId := none
                period := 1600, flashMask := false, seq := 0 }
            pt := { profileIndex := 0, snapshot := Profile.default }
            ds := { queue := [], inEmission := false }
            npw :=
              { stage := .idle, held := false, completePending := false, node := 0, savedNode := 0, walked := 0
                digitSeen := false, timer := none }
            es := { gate := false, autoTimer := none, emission := .idle, remaining := 0, generator := none }
            lat := { owner := .none, epoch := 0, service := .outOfService, savedService := .outOfService }
            mu :=
              { testLevel := none
                stats :=
                  { pulses := 0, digits := 0, overcounts := 0, breakErrors := 0, glitches := 0, ratioFlags := 0
                    flashes := 0 } }
            due := .nothing })
    ∧ t.missCount = 0 ∧ t.scanLoss = false ∧ t.scanRequested = false
    ∧ (∀ i : Fin 8, t.profiles[i] = Profile.default)
    ∧ t.freeList.Perm (List.finRange 256)
    ∧ (∀ (i : Fin 64) (k : Fin 10), (t.plan[i])[k] = .cont 0)
    ∧ (∀ g : Fin 8, (t.gen g).holder = none) ∧ t.waitingList = []
    ∧ t.frameCounter = 0 ∧ t.timestamp = 0 ∧ t.frameOpen = false
    ∧ (∀ n : LineId, t.sUp[n] = 0 ∧ t.lDown[n] = 0)
    ∧ t.pattern = none ∧ t.play = none ∧ t.check = none ∧ t.watched = none ∧ t.ring = []
    ∧ (∀ p : PortId,
        t.port p =
          { receiver := .idle, request := {}, response := none, queue := [], lost := 0, selectLow := (s.port p).selectLow
            ignoreSelect := (s.port p).selectLow, driven := none })
    ∧ t.pending = s.pending

/-- PART_RESET from port M returns every line, the scan counters, the store, the pool and the maintenance unit to their reset
values with P0 and the snapshot of entry 0 as it stands, empties the three event queues, keeps the entries, the plan, the
timestamp, the frame counter and the frame receivers, and replies with the timestamp (R186). That the scan frame outstanding
and all that the tick owed to a line are dropped is the model's reading (log 17). -/
def Obligations.PartResetKeepsTheTables : Prop :=
  ∀ (t : Octet) (s u : State), u = s.boundaryFirst →
    ∃ v : State, exec (.partReset .m t []) s = .next (answered .m (request 0x4F t []) .ok (be32 u.timestamp) v)
      ∧ (∀ n : LineId, v.line n = Line.afterReset u.profiles[0])
      ∧ (∀ e : Profile,
          Line.afterReset e =
            { ls := { loop := .opened, candidate := 0, faultKind := .none, faultLatch := false }
              pd :=
                { state := .loopOpen, seizeTimer := 0, breakTimer := 0, makeTimer := 0, inDigit := false, pulseCount := 0
                  mPrev := 0, b := 0, flags := { ratioLow := false, ratioHigh := false, bounce := false }, tId := none
                  period := e.periodInitial * 16, flashMask := false, seq := 0 }
              pt := { profileIndex := 0, snapshot := e }
              ds := { queue := [], inEmission := false }
              npw :=
                { stage := .idle, held := false, completePending := false, node := 0, savedNode := 0, walked := 0
                  digitSeen := false, timer := none }
              es := { gate := false, autoTimer := none, emission := .idle, remaining := 0, generator := none }
              lat := { owner := .none, epoch := 0, service := .outOfService, savedService := .outOfService }
              mu :=
                { testLevel := none
                  stats :=
                    { pulses := 0, digits := 0, overcounts := 0, breakErrors := 0, glitches := 0, ratioFlags := 0
                      flashes := 0 } }
              due := .nothing })
      ∧ v.freeList.Perm (List.finRange 256)
      ∧ (∀ g : Fin 8, (v.gen g).holder = none)
      ∧ v =
        { u with
          lines := v.lines
          missCount := 0
          scanLoss := false
          scanRequested := false
          freeList := v.freeList
          gens := v.gens
          waiting := []
          joining := []
          arbiterDue := false
          pattern := none
          play := none
          check := none
          watched := none
          ring := []
          portA := { u.portA with queue := [], lost := 0 }
          portB := { u.portB with queue := [], lost := 0 }
          portM := { u.portM with queue := [], lost := 0 } }

/-! ## Control frames -/

/-- FRAME_BEGIN opens a request with empty buffers; FRAME_END returns the receiver to IDLE from any phase and empties the
buffers, and lifts the disregard of a select that was low at power-on (R158, R160). Without an edge of select nothing
happens (the model's reading, log 13). Nothing but the port changes. -/
def Obligations.SelectFramesARequest : Prop :=
  ∀ (p : PortId) (s : State),
    ((s.port p).selectLow = false →
        exec (.frameBegin p) s = .next (s.updPort p fun q =>
          { q with selectLow := true, receiver := .request, request := {}, response := none, driven := none }))
      ∧ ((s.port p).selectLow = true → exec (.frameBegin p) s = .next s)
      ∧ ((s.port p).selectLow = true →
          exec (.frameEnd p) s = .next (s.updPort p fun q =>
            { q with
              selectLow := false, ignoreSelect := false, receiver := .idle, request := {}, response := none
              driven := none }))
      ∧ ((s.port p).selectLow = false → exec (.frameEnd p) s = .next s)

/-- An octet time outside a frame takes nothing; in REQUEST it takes the octet in against 0xFF, and with the last one the
command is taken; in RESPONSE it drives the next of status, R and the response octets, and after the last the receiver is in
TRAILER; in TRAILER it drives 0xFF (R158, R159). -/
def Obligations.OctetTimesFollowTheFrame : Prop :=
  ∀ (p : PortId) (o : Octet) (s : State),
    ((s.port p).receiver = .idle → exec (.octetTime p o) s = .next s)
      ∧ ((s.port p).receiver = .request → ((s.port p).request.push o).complete = none →
          exec (.octetTime p o) s = .next (s.updPort p fun q =>
            { q with request := q.request.push o, driven := some 0xFF }))
      ∧ (∀ r : Request, (s.port p).receiver = .request → ((s.port p).request.push o).complete = some r →
          exec (.octetTime p o) s = .next (take (actionOf r.command) p r s))
      ∧ (∀ w : ResponseBuffer, (s.port p).receiver = .response → (s.port p).response = some w →
          w.sent < w.data.length + 2 →
          exec (.octetTime p o) s = .next (s.updPort p fun q =>
            { q with
              driven := ([octet w.status.code, octet w.data.length] ++ w.data)[w.sent]?
              response := some { w with sent := w.sent + 1 }
              receiver := if w.sent + 1 < w.data.length + 2 then .response else .trailer }))
      ∧ ((s.port p).receiver = .trailer →
          exec (.octetTime p o) s = .next (s.updPort p fun q => { q with driven := some 0xFF }))

/-- The request octets command, target, L and L data octets, received in this order into an empty buffer, are complete with
the last of them and not before; all data octets are counted and the first 80 are kept (R158, R159). -/
def Obligations.RequestOctetsSpellOneRequest : Prop :=
  ∀ (c t : Octet) (d : List Octet), d.length ≤ 255 →
    (([c, t, octet d.length] ++ d).foldl RequestBuffer.push {}).complete = some ⟨c, t, d.length, d.take 80⟩
      ∧ ∀ k : Nat, k < d.length + 3 →
          ((([c, t, octet d.length] ++ d).take k).foldl RequestBuffer.push {}).complete = none

/-- A row of the command set has the effect that its request octets have: that of the command code's action, taken on its
port (R159, R173). So the rows and OCTET_TIME agree. That a row stands for the whole request at the moment its command is
taken, whatever frame or ignored select stands on the port, is the model's choice (log 12). -/
def Obligations.RowsActAsTheirRequests : Prop :=
  ∀ (i : Instr) (p : PortId) (c t : Octet) (d : List Octet) (s : State), i.wellFormed = true →
    requestOfRow i = some (p, c, t, d) → exec i s = .next (take (actionOf c) p (request c t d) s)

/-- Every request spells a well-formed row, and that row's request is the one it was read from (R173): no octet of it is
dropped. How the rows of TAKEOVER and SET_SERVICE share their requests is the model's choice (log 26). -/
def Obligations.RequestsAndRowsCorrespond : Prop :=
  ∀ (p : PortId) (c t : Octet) (d : List Octet), d.length ≤ 255 →
    (rowOfRequest p c t d).wellFormed = true ∧ requestOfRow (rowOfRequest p c t d) = some (p, c, t, d)

/-- A code that is not in the table is refused UNKNOWN with R 0, whatever its target and data. Every command of the table with
a data length that it does not allow is refused LENGTH, and one with an allowed length whose target names no line is refused
RANGE. All of them change nothing (R161, R173). -/
def Obligations.BadRequestsAreRefused : Prop :=
  (∀ (p : PortId) (c t : Octet) (d : List Octet) (s u : State), u = s.boundaryFirst → c ∉ definedCodes →
      exec (.unknownCommand p c t d) s = .next (answered p (request c t d) .unknown [] u))
    ∧ ((∀ (p : PortId) (c t : Octet) (d : List Octet) (k : Nat) (s u : State), u = s.boundaryFirst →
        requiredLength c = some k → d.length ≠ k →
        exec (rowOfRequest p c t d) s = .next (answered p (request c t d) .length [] u))
      ∧ (∀ (p : PortId) (t : Octet) (d : List Octet) (s u : State), u = s.boundaryFirst →
          ¬ (d.length % 3 = 0 ∧ 3 ≤ d.length ∧ d.length ≤ 48) →
          exec (.loadPattern p t d) s = .next (answered p (request 0x42 t d) .length [] u))
      ∧ ∀ (p : PortId) (c t : Octet) (d : List Octet) (s u : State), u = s.boundaryFirst → c ∈ lineCodes →
          requiredLength c = some d.length → 32 ≤ t.toNat →
          (t = 255 → c ≠ 0x22 ∧ c ≠ 0x45) →
          exec (rowOfRequest p c t d) s = .next (answered p (request c t d) .range [] u))

/-- A maintenance command that passes its length and range checks is refused WRONG_PORT on ports A and B (chapter 11). -/
def Obligations.MaintenanceNeedsPortM : Prop :=
  (∀ (p : PortId) (c t : Octet) (s u : State), u = s.boundaryFirst → p ≠ .m →
      c ∈ [(0x40 : Octet), 0x41, 0x43, 0x44, 0x45, 0x46, 0x47, 0x48, 0x4F] →
      (c ∈ [(0x40 : Octet), 0x41, 0x43, 0x48] → t.toNat < 32) → (c = 0x45 → t.toNat < 32 ∨ t = 255) →
      exec (rowOfRequest p c t []) s = .next (answered p (request c t []) .wrongPort [] u))
    ∧ ∀ (p : PortId) (t : Octet) (d : List Octet) (segs : List Segment) (s u : State), u = s.boundaryFirst → p ≠ .m →
        d.length % 3 = 0 → 3 ≤ d.length → d.length ≤ 48 → segmentsOfOctets d = some segs →
        exec (.loadPattern p t d) s = .next (answered p (request 0x42 t d) .wrongPort [] u)

/-- PROCEED, CUT_THROUGH, PLAN_RELEASE, PLAN_DISCARD, FLASH_ACK and PURGE, from a port that may not act on the line: for a
line in TEST, WRONG_STATE from A and B; for another line, WRONG_PORT from M and NOT_OWNER from a call controller that is not
its owner. Nothing changes (the first row of R152). -/
def Obligations.CallCommandsNeedTheOwner : Prop :=
  ∀ (p : PortId) (c : Octet) (n : LineId) (s u : State), u = s.boundaryFirst → c ∈ callCodes →
    ((u.line n).lat.service = .test → p ≠ .m →
        exec (rowOfRequest p c (lineTarget n) []) s
          = .next (answered p (request c (lineTarget n) []) .wrongState [] u))
      ∧ ((u.line n).lat.service ≠ .test → p = .m →
          exec (rowOfRequest p c (lineTarget n) []) s
            = .next (answered p (request c (lineTarget n) []) .wrongPort [] u))
      ∧ ((u.line n).lat.service ≠ .test → p ≠ .m → (u.line n).lat.owner.port ≠ some p →
          exec (rowOfRequest p c (lineTarget n) []) s
            = .next (answered p (request c (lineTarget n) []) .notOwner [] u))

/-- The other rows of R152: LINE_RESET, ASSIGN_PROFILE, SET_SERVICE, RELINQUISH, CLAIM, TAKEOVER and ASSIGN from a port that
may not send them, with the status that R152 gives. -/
def Obligations.ServiceAndOwnershipCommandsNeedTheirPort : Prop :=
  ∀ (p : PortId) (n : LineId) (s u : State), u = s.boundaryFirst →
    ((u.line n).lat.service = .test → p ≠ .m →
        exec (.lineReset p (lineTarget n) []) s
            = .next (answered p (request 0x36 (lineTarget n) []) .wrongState [] u)
          ∧ ∀ i : Octet, i.toNat < 8 →
              exec (.assignProfile p (lineTarget n) [i]) s
                = .next (answered p (request 0x25 (lineTarget n) [i]) .wrongState [] u))
      ∧ ((u.line n).lat.service ≠ .test → p ≠ .m → (u.line n).lat.owner.port ≠ some p →
          exec (.lineReset p (lineTarget n) []) s
              = .next (answered p (request 0x36 (lineTarget n) []) .notOwner [] u)
            ∧ (∀ i : Octet, i.toNat < 8 →
                exec (.assignProfile p (lineTarget n) [i]) s
                  = .next (answered p (request 0x25 (lineTarget n) [i]) .notOwner [] u))
            ∧ exec (.setServiceOut p (lineTarget n) [0]) s
                = .next (answered p (request 0x24 (lineTarget n) [0]) .notOwner [] u)
            ∧ exec (.setServiceIn p (lineTarget n) [1]) s
                = .next (answered p (request 0x24 (lineTarget n) [1]) .notOwner [] u))
      ∧ ((u.line n).lat.service = .test →
          exec (.setServiceOut p (lineTarget n) [0]) s
              = .next (answered p (request 0x24 (lineTarget n) [0]) .wrongState [] u)
            ∧ exec (.setServiceIn p (lineTarget n) [1]) s
                = .next (answered p (request 0x24 (lineTarget n) [1]) .wrongState [] u))
      ∧ (p ≠ .m → (u.line n).lat.owner.port ≠ some p →
          exec (.relinquish p (lineTarget n) []) s
            = .next (answered p (request 0x21 (lineTarget n) []) .notOwner [] u))
      ∧ (p = .m →
          exec (.relinquish p (lineTarget n) []) s
              = .next (answered p (request 0x21 (lineTarget n) []) .wrongPort [] u)
            ∧ exec (.claim p (lineTarget n) []) s
                = .next (answered p (request 0x20 (lineTarget n) []) .wrongPort [] u)
            ∧ exec (.takeover p (lineTarget n) []) s
                = .next (answered p (request 0x22 (lineTarget n) []) .wrongPort [] u)
            ∧ exec (.takeoverAll p []) s = .next (answered p (request 0x22 255 []) .wrongPort [] u))
      ∧ (p ≠ .m → ∀ o : Octet, o.toNat ≤ 2 →
          exec (.assign p (lineTarget n) [o]) s
            = .next (answered p (request 0x23 (lineTarget n) [o]) .wrongPort [] u))

/-! ## Reading -/

/-- NOP, PEEK_QUEUE, READ_PROFILE, READ_PLAN and READ_POOL, from every port, reply with what they report, as it stands, and
change nothing; with data they are refused LENGTH, and a line, entry or node outside its table is refused RANGE (R162, R84,
R62, R91, R164). -/
def Obligations.ReadsReportAndChangeNothing : Prop :=
  ∀ (p : PortId) (t : Octet) (s u : State), u = s.boundaryFirst →
    (∀ d : List Octet, d ≠ [] →
        exec (.nop p t d) s = .next (answered p (request 0x00 t d) .length [] u)
          ∧ exec (.peekQueue p t d) s = .next (answered p (request 0x02 t d) .length [] u)
          ∧ exec (.readProfile p t d) s = .next (answered p (request 0x04 t d) .length [] u)
          ∧ exec (.readPlan p t d) s = .next (answered p (request 0x05 t d) .length [] u)
          ∧ exec (.readPool p t d) s = .next (answered p (request 0x06 t d) .length [] u))
      ∧ (32 ≤ t.toNat → exec (.peekQueue p t []) s = .next (answered p (request 0x02 t []) .range [] u))
      ∧ exec (.nop p t []) s
        = .next (answered p (request 0x00 t []) .ok [octet (u.port p).queue.length, octet (u.port p).lost] u)
      ∧ (∀ n : LineId,
          exec (.peekQueue p (lineTarget n) []) s
            = .next (answered p (request 0x02 (lineTarget n) []) .ok
              ([octet (u.line n).ds.queue.length, flagOctet (u.line n).ds.inEmission]
                ++ (u.line n).ds.queue.flatMap fun r =>
                  [octet r.symbol.code, octet r.pulses, octet r.flags.value, r.seq,
                    octet (r.decodedAt.toNat / 256), octet r.decodedAt.toNat, octet r.mark.code])
              u))
      ∧ (∀ i : Fin 8,
          exec (.readProfile p (BitVec.ofNat 8 i.val) []) s
            = .next (answered p (request 0x04 (BitVec.ofNat 8 i.val) []) .ok u.profiles[i].octets u))
      ∧ (8 ≤ t.toNat → exec (.readProfile p t []) s = .next (answered p (request 0x04 t []) .range [] u))
      ∧ (∀ i : Fin 64,
          exec (.readPlan p (BitVec.ofNat 8 i.val) []) s
            = .next (answered p (request 0x05 (BitVec.ofNat 8 i.val) []) .ok (planNodeOctets u.plan[i]) u))
      ∧ (64 ≤ t.toNat → exec (.readPlan p t []) s = .next (answered p (request 0x05 t []) .range [] u))
      ∧ exec (.readPool p t []) s
          = .next (answered p (request 0x06 t []) .ok
            ([octet (u.freeList.length / 256), octet u.freeList.length]
              ++ allGenerators.map (fun g => lineOctet (u.gen g).holder)
              ++ [octet u.waitingList.length] ++ u.waitingList.map fun n => octet n.val)
            u)

/-- READ_LINE replies with the 21 octets of R177, the latch as it stood; from the port that receives the line's events (M for
a line in TEST or without an owner, else the owner's) it clears the latch, and from another port it changes nothing. With
data it is refused LENGTH, and a line outside 0..31 is refused RANGE (R8, R163). -/
def Obligations.ReadLineClearsTheLatchForTheEventPort : Prop :=
  ∀ (p : PortId) (n : LineId) (s u : State) (l : Line) (summary : List Octet), u = s.boundaryFirst → l = u.line n →
    summary =
      [octet l.lat.service.code, octet l.lat.owner.code, l.lat.epoch, octet l.pt.profileIndex.val, octet l.npw.stage.code,
        flagOctet l.npw.held, flagOctet l.npw.completePending, octet l.pd.state.code, flagOctet l.pd.inDigit,
        octet l.pd.pulseCount, octet (l.pd.period / 256), octet l.pd.period, flagOctet l.es.gate,
        octet l.es.emission.code, octet l.ds.queue.length, octet l.npw.node.val, octet l.npw.walked,
        flagOctet l.pd.flashMask, octet l.ls.faultKind.code, flagOctet l.ls.faultLatch, l.pd.seq] →
    (((l.lat.service = .test ∨ l.lat.owner = .none) ∧ p = .m)
        ∨ (l.lat.service ≠ .test ∧ l.lat.owner.port = some p) →
      exec (.readLine p (lineTarget n) []) s
        = .next (answered p (request 0x01 (lineTarget n) []) .ok summary
          (u.updLine n fun x => { x with ls := { x.ls with faultLatch := false } })))
    ∧ (¬ (((l.lat.service = .test ∨ l.lat.owner = .none) ∧ p = .m)
        ∨ (l.lat.service ≠ .test ∧ l.lat.owner.port = some p)) →
      exec (.readLine p (lineTarget n) []) s
        = .next (answered p (request 0x01 (lineTarget n) []) .ok summary u))
    ∧ (∀ (t : Octet) (d : List Octet), d ≠ [] →
      exec (.readLine p t d) s = .next (answered p (request 0x01 t d) .length [] u))
    ∧ ∀ t : Octet, 32 ≤ t.toNat →
      exec (.readLine p t []) s = .next (answered p (request 0x01 t []) .range [] u)

/-- READ_EVENTS with n in 1..16 replies with the lost count and the n oldest records (all, when there are fewer), removes
them from the issuing port's queue and sets its lost count to 0; any other n is refused RANGE, and a data length other than
1 is refused LENGTH (R167, R174). -/
def Obligations.ReadEventsRemovesTheOldest : Prop :=
  ∀ (p : PortId) (t n : Octet) (s u : State), u = s.boundaryFirst →
    (1 ≤ n.toNat → n.toNat ≤ 16 →
        exec (.readEvents p t [n]) s
          = .next (answered p (request 0x03 t [n]) .ok
            (octet (u.port p).lost :: ((u.port p).queue.take n.toNat).flatMap fun e =>
              [octet e.kind.code, e.line, e.epoch, e.seq, e.arg1, e.arg2, octet (e.timestamp.toNat / 16777216),
                octet (e.timestamp.toNat / 65536), octet (e.timestamp.toNat / 256), octet e.timestamp.toNat])
            (u.updPort p fun q => { q with queue := q.queue.drop n.toNat, lost := 0 })))
      ∧ (n.toNat < 1 ∨ 16 < n.toNat →
          exec (.readEvents p t [n]) s = .next (answered p (request 0x03 t [n]) .range [] u))
      ∧ ∀ d : List Octet, d.length ≠ 1 →
          exec (.readEvents p t d) s = .next (answered p (request 0x03 t d) .length [] u)

/-! ## Configuration -/

/-- WRITE_PROFILE with 47 octets for an entry 0..7: refused RANGE with the entry as it stands when an enumerated field has an
undefined code or the clamped values break an order, else the entry becomes the clamped values and is returned (R59, R60).
WRITE_PLAN with 20 octets for a node 0..63: the node is replaced whole and returned, or refused RANGE with the node as it
stands when a kind code is above 3 or a CONTINUE or HOLD target above 63 (R90). A target outside the table is refused RANGE
without data. What the data octets give is spelled out: the codes that are undefined, every field with its range, the orders,
and the branches, with the target of COMPLETE and REJECT not examined. -/
def Obligations.WritesStoreOrReturnWhatStands : Prop :=
  (∀ (d : List Octet) (value : Nat → Nat), d.length = 47 →
      (∀ k : Nat, value k = (d.getD k 0).toNat * 256 + (d.getD (k + 1) 0).toNat) →
      (2 < (d.getD 28 0).toNat ∨ 1 < (d.getD 45 0).toNat ∨ 1 < (d.getD 46 0).toNat → Profile.ofOctets d = none)
        ∧ (∀ numbering : Numbering, (d.getD 28 0).toNat = numbering.code → (d.getD 45 0).toNat ≤ 1 →
          (d.getD 46 0).toNat ≤ 1 →
          Profile.ofOctets d = some
            { makeThreshold := max 1 (min 255 (value 0))
              breakThreshold := max 0 (min 254 (value 2))
              settleCount := max 1 (min 8 (value 4))
              seizeTime := max 10 (min 500 (value 6))
              breakMin := max 10 (min 80 (value 8))
              breakMax := max 40 (min 200 (value 10))
              makeMin := max 5 (min 60 (value 12))
              flashMin := max 100 (min 1500 (value 14))
              flashMax := max 200 (min 2000 (value 16))
              periodInitial := max 60 (min 160 (value 18))
              interdigitFactor := max 6 (min 24 (value 20))
              interdigitMin := max 100 (min 1000 (value 22))
              ratioLow := max 30 (min 70 (value 24))
              ratioHigh := max 55 (min 90 (value 26))
              numbering := numbering
              queueLimit := max 1 (min 32 (value 29))
              planRoot := max 0 (min 63 (value 31))
              autoProceed := max 0 (min 10000 (value 33))
              endTimeout := max 1000 (min 30000 (value 35))
              toneOn := max 40 (min 200 (value 37))
              toneOff := max 40 (min 500 (value 39))
              levelLow := max 0 (min 32767 (value 41))
              levelHigh := max 0 (min 32767 (value 43))
              flashTone := decide ((d.getD 45 0).toNat = 1)
              digitReports := decide ((d.getD 46 0).toNat = 1) }))
    ∧ (∀ e : Profile, e.ordered = true ↔ e.breakThreshold < e.makeThreshold ∧ e.breakMin < e.breakMax
        ∧ e.breakMax < e.flashMin ∧ e.flashMin ≤ e.flashMax ∧ e.ratioLow < e.ratioHigh)
    ∧ (∀ (d : List Octet) (kind target : Fin 10 → Nat), d.length = 20 →
      (∀ k : Fin 10, kind k = (d.getD (2 * k.val) 0).toNat ∧ target k = (d.getD (2 * k.val + 1) 0).toNat) →
      ((∃ k : Fin 10, 3 < kind k ∨ ((kind k = 0 ∨ kind k = 2) ∧ 63 < target k)) → planNodeOfOctets d = none)
        ∧ (∀ node : PlanNode,
          (∀ k : Fin 10,
            (∃ m : Fin 64, kind k = 0 ∧ target k = m.val ∧ node[k] = .cont m) ∨ (kind k = 1 ∧ node[k] = .complete)
              ∨ (∃ m : Fin 64, kind k = 2 ∧ target k = m.val ∧ node[k] = .hold m)
              ∨ (kind k = 3 ∧ node[k] = .reject)) →
          planNodeOfOctets d = some node))
    ∧
  (∀ (p : PortId) (t : Octet) (d : List Octet) (s u : State), u = s.boundaryFirst → d.length = 47 →
      (∀ (i : Fin 8) (e : Profile), t = BitVec.ofNat 8 i.val → Profile.ofOctets d = some e → e.ordered = true →
          exec (.writeProfile p t d) s
            = .next (answered p (request 0x10 t d) .ok e.octets { u with profiles := u.profiles.set i e }))
        ∧ (∀ (i : Fin 8) (e : Profile), t = BitVec.ofNat 8 i.val → Profile.ofOctets d = some e → e.ordered = false →
            exec (.writeProfile p t d) s = .next (answered p (request 0x10 t d) .range u.profiles[i].octets u))
        ∧ (∀ i : Fin 8, t = BitVec.ofNat 8 i.val → Profile.ofOctets d = none →
            exec (.writeProfile p t d) s = .next (answered p (request 0x10 t d) .range u.profiles[i].octets u))
        ∧ (8 ≤ t.toNat → exec (.writeProfile p t d) s = .next (answered p (request 0x10 t d) .range [] u)))
    ∧ (∀ (p : PortId) (t : Octet) (d : List Octet) (s u : State), u = s.boundaryFirst → d.length = 20 →
      (∀ (i : Fin 64) (node : PlanNode), t = BitVec.ofNat 8 i.val → planNodeOfOctets d = some node →
          exec (.writePlan p t d) s
            = .next (answered p (request 0x11 t d) .ok (planNodeOctets node) { u with plan := u.plan.set i node }))
        ∧ (∀ i : Fin 64, t = BitVec.ofNat 8 i.val → planNodeOfOctets d = none →
            exec (.writePlan p t d) s = .next (answered p (request 0x11 t d) .range (planNodeOctets u.plan[i]) u))
        ∧ (64 ≤ t.toNat → exec (.writePlan p t d) s = .next (answered p (request 0x11 t d) .range [] u)))

/-- A valid entry read back from its 47 octets is the entry itself, and a node read back from its 20 octets is the node
itself (R176): no field and no branch is dropped or moved. -/
def Obligations.ConfigurationOctetsRoundTrip : Prop :=
  (∀ e : Profile, e.valid = true → e.octets.length = 47 ∧ Profile.ofOctets e.octets = some e)
    ∧ ∀ node : PlanNode, (planNodeOctets node).length = 20 ∧ planNodeOfOctets (planNodeOctets node) = some node

/-- ASSIGN_PROFILE from port M, or from the owner's port for a line not in TEST, on a line in stage IDLE: the index becomes
the one named and P becomes P0 of that entry; an index above 7 is refused RANGE, and a line in a call WRONG_STATE (R66). -/
def Obligations.AssignProfileSetsIndexAndEstimate : Prop :=
  ∀ (p : PortId) (n : LineId) (i : Octet) (s u : State), u = s.boundaryFirst →
    (8 ≤ i.toNat →
        exec (.assignProfile p (lineTarget n) [i]) s
          = .next (answered p (request 0x25 (lineTarget n) [i]) .range [] u))
      ∧ (p = .m ∨ ((u.line n).lat.service ≠ .test ∧ (u.line n).lat.owner.port = some p) →
          ((u.line n).npw.stage ≠ .idle → i.toNat < 8 →
              exec (.assignProfile p (lineTarget n) [i]) s
                = .next (answered p (request 0x25 (lineTarget n) [i]) .wrongState [] u))
            ∧ ∀ k : Fin 8, i.toNat = k.val → (u.line n).npw.stage = .idle →
                exec (.assignProfile p (lineTarget n) [i]) s
                  = .next (answered p (request 0x25 (lineTarget n) [i]) .ok []
                    (u.updLine n fun l =>
                      { l with
                        pt := { l.pt with profileIndex := k }
                        pd := { l.pd with period := u.profiles[k].periodInitial * 16 } })))

/-! ## Ownership and service -/

/-- A change of owner sets the owner and increments the epoch modulo 256, and leaves every other part of every line and of
the machine as it was but the event queues: OWNER_CHANGE goes to the old owner's port, with the new owner and the cause, and
SNAPSHOT to the new owner's port, both with the new epoch (R143, R145). -/
def Obligations.ChangeOfOwnerRecords : Prop :=
  ∀ (s : State) (n : LineId) (new : Owner) (cause : OwnerCause) (l : Line), l = s.line n →
    let change (q : Port) : Port :=
      q.accept ⟨.ownerChange, lineTarget n, l.lat.epoch + 1, 0, octet new.code, octet cause.code, s.timestamp⟩
    let snapshot (q : Port) : Port :=
      q.accept
        ⟨.snapshot, lineTarget n, l.lat.epoch + 1, l.pd.seq,
          octet (l.npw.stage.code + (if l.npw.held then 4 else 0) + (if l.es.gate then 8 else 0)
            + (if l.pd.flashMask then 16 else 0)),
          octet l.ds.queue.length, s.timestamp⟩
    let written := s.updLine n fun x => { x with lat := { x.lat with owner := new, epoch := x.lat.epoch + 1 } }
    (∀ old now : PortId, l.lat.owner.port = some old → new.port = some now →
        s.changeOwner n new cause = (written.updPort old change).updPort now snapshot)
      ∧ (∀ old : PortId, l.lat.owner.port = some old → new.port = none →
          s.changeOwner n new cause = written.updPort old change)
      ∧ (∀ now : PortId, l.lat.owner.port = none → new.port = some now →
          s.changeOwner n new cause = written.updPort now snapshot)

/-- CLAIM from a call controller: an unowned line becomes the issuer's; the issuer's own line is left; the peer's line is
refused OWNED; the reply carries the line's epoch after the command, also when refused (R146). RELINQUISH from the line's
owner: the owner becomes NONE with the cause RELINQUISH, and the reply carries the epoch after it (R147). -/
def Obligations.ClaimAndRelinquishMoveOneLine : Prop :=
  (∀ (p : PortId) (me : Owner) (n : LineId) (s u : State), u = s.boundaryFirst → me.port = some p →
      ((u.line n).lat.owner = .none →
          exec (.claim p (lineTarget n) []) s
            = .next (answered p (request 0x20 (lineTarget n) []) .ok [(u.line n).lat.epoch + 1]
              (u.changeOwner n me .takeover)))
        ∧ ((u.line n).lat.owner = me →
            exec (.claim p (lineTarget n) []) s
              = .next (answered p (request 0x20 (lineTarget n) []) .ok [(u.line n).lat.epoch] u))
        ∧ ((u.line n).lat.owner ≠ .none → (u.line n).lat.owner ≠ me →
            exec (.claim p (lineTarget n) []) s
              = .next (answered p (request 0x20 (lineTarget n) []) .owned [(u.line n).lat.epoch] u)))
    ∧ (∀ (p : PortId) (n : LineId) (s u : State), u = s.boundaryFirst → (u.line n).lat.owner.port = some p →
      exec (.relinquish p (lineTarget n) []) s
        = .next (answered p (request 0x21 (lineTarget n) []) .ok [(u.line n).lat.epoch + 1]
          (u.changeOwner n .none .relinquish)))

/-- TAKEOVER of one line from a call controller takes it from the peer or from NONE, with the count 1, and leaves the issuer's
own line, with the count 0 (R148). With the target 255 it takes, in line order, every line whose owner is the peer, and
leaves every other line; the reply counts them (R149). -/
def Obligations.TakeoverTakesFromThePeer : Prop :=
  (∀ (p : PortId) (me : Owner) (n : LineId) (s u : State), u = s.boundaryFirst → me.port = some p →
      ((u.line n).lat.owner = me →
          exec (.takeover p (lineTarget n) []) s = .next (answered p (request 0x22 (lineTarget n) []) .ok [0] u))
        ∧ ((u.line n).lat.owner ≠ me →
            exec (.takeover p (lineTarget n) []) s
              = .next (answered p (request 0x22 (lineTarget n) []) .ok [1] (u.changeOwner n me .takeover))))
    ∧ (∀ (p : PortId) (me peer : Owner) (s u : State), u = s.boundaryFirst →
      (p = .a ∧ me = .a ∧ peer = .b) ∨ (p = .b ∧ me = .b ∧ peer = .a) →
      ∃ v : State,
        exec (.takeoverAll p []) s
            = .next (answered p (request 0x22 255 []) .ok
              [octet (allLines.filter fun n => decide ((u.line n).lat.owner = peer)).length] v)
          ∧ v = (allLines.filter fun n => decide ((u.line n).lat.owner = peer)).foldl
              (fun t n => t.changeOwner n me .takeover) u
          ∧ (∀ n : LineId, (u.line n).lat.owner = peer →
              v.line n = { u.line n with
                lat := { (u.line n).lat with owner := me, epoch := (u.line n).lat.epoch + 1 } })
          ∧ (∀ n : LineId, (u.line n).lat.owner ≠ peer → v.line n = u.line n)
          ∧ v = { u with lines := v.lines, portA := v.portA, portB := v.portB })

/-- ASSIGN from port M sets the owner that it names and replies with the owner before; a line that has that owner is left;
an owner code above 2 is refused RANGE from every port (R151). -/
def Obligations.AssignSetsTheOwner : Prop :=
  ∀ (n : LineId) (o : Octet) (new : Owner) (s u : State), u = s.boundaryFirst →
    (o.toNat = new.code → (u.line n).lat.owner ≠ new →
        exec (.assign .m (lineTarget n) [o]) s
          = .next (answered .m (request 0x23 (lineTarget n) [o]) .ok [octet (u.line n).lat.owner.code]
            (u.changeOwner n new .assign)))
      ∧ (o.toNat = new.code → (u.line n).lat.owner = new →
          exec (.assign .m (lineTarget n) [o]) s
            = .next (answered .m (request 0x23 (lineTarget n) [o]) .ok [octet (u.line n).lat.owner.code] u))
      ∧ (2 < o.toNat → ∀ p : PortId,
          exec (.assign p (lineTarget n) [o]) s
            = .next (answered p (request 0x23 (lineTarget n) [o]) .range [] u))

/-- SET_SERVICE from the owner's port or port M on a line not in TEST: IN brings an OUT_OF_SERVICE line into service, OUT
performs a line reset on a line IN_SERVICE and takes it out; where the line is already so, nothing changes. The reply is the
service state before; a value above 1 is refused RANGE (R153). -/
def Obligations.SetServiceMovesTheLine : Prop :=
  ∀ (p : PortId) (n : LineId) (s u : State), u = s.boundaryFirst →
    (∀ v : Octet, 1 < v.toNat →
        exec (.setServiceIn p (lineTarget n) [v]) s
          = .next (answered p (request 0x24 (lineTarget n) [v]) .range [] u))
      ∧ (p = .m ∨ (u.line n).lat.owner.port = some p →
          ((u.line n).lat.service = .outOfService →
              exec (.setServiceIn p (lineTarget n) [1]) s
                  = .next (answered p (request 0x24 (lineTarget n) [1]) .ok [0]
                    (u.updLine n fun l => { l with lat := { l.lat with service := .inService } }))
                ∧ exec (.setServiceOut p (lineTarget n) [0]) s
                  = .next (answered p (request 0x24 (lineTarget n) [0]) .ok [0] u))
            ∧ ((u.line n).lat.service = .inService →
              exec (.setServiceIn p (lineTarget n) [1]) s
                  = .next (answered p (request 0x24 (lineTarget n) [1]) .ok [1] u)
                ∧ exec (.setServiceOut p (lineTarget n) [0]) s
                  = .next (answered p (request 0x24 (lineTarget n) [0]) .ok [1]
                    ((u.lineReset n).updLine n fun l => { l with lat := { l.lat with service := .outOfService } }))))

/-! ## Call commands -/

/-- PROCEED, from a port that the first row of R152 allows: in stage IDLE it is refused WRONG_STATE; a closed gate opens and
the auto-proceed timer stops, and a line that then meets the request conditions joins the waiting list; an open gate is
left. The reply is the gate before (R109). -/
def Obligations.ProceedOpensTheGate : Prop :=
  ∀ (p : PortId) (n : LineId) (s u : State), u = s.boundaryFirst → u.callPermission n p = none →
    ((u.line n).npw.stage = .idle →
        exec (.proceed p (lineTarget n) []) s
          = .next (answered p (request 0x30 (lineTarget n) []) .wrongState [] u))
      ∧ ((u.line n).npw.stage ≠ .idle → (u.line n).es.gate = true →
          exec (.proceed p (lineTarget n) []) s = .next (answered p (request 0x30 (lineTarget n) []) .ok [1] u))
      ∧ ((u.line n).npw.stage ≠ .idle → (u.line n).es.gate = false →
          exec (.proceed p (lineTarget n) []) s
            = .next (answered p (request 0x30 (lineTarget n) []) .ok [0]
              ((u.updLine n fun l => { l with es := { l.es with gate := true, autoTimer := none } }).reviewRequest n)))

/-- The check of the request conditions: a line in emission IDLE that meets the five conditions of R112 becomes WAITING_GEN
and joins the lines of the frame in line order: those before it have no higher number, the first behind it has a higher
one, their own order stays, and a rising list goes on rising; a line in WAITING_GEN that fails one leaves the list and
becomes IDLE (R113); in TONE_ON and TONE_OFF, and otherwise, nothing changes. That a line which left in a frame and joins again in it
takes its line-number place among that frame's joiners is the model's choice (log 28). -/
def Obligations.RequestConditionsDecideWaiting : Prop :=
  (∀ (n : LineId) (joined : List LineId),
      (∃ ahead behind : List LineId, joined = ahead ++ behind ∧ insertLine n joined = ahead ++ n :: behind
        ∧ (∀ m ∈ ahead, m ≤ n) ∧ ∀ m : LineId, behind.head? = some m → n < m)
      ∧ (joined.Pairwise (· < ·) → n ∉ joined → (insertLine n joined).Pairwise (· < ·)))
    ∧
  ∀ (s : State) (n : LineId) (conditions : Prop),
    (conditions ↔
      ((s.line n).lat.service = .inService ∨ (s.line n).lat.service = .test)
        ∧ ((s.line n).npw.stage = .dialling ∨ (s.line n).npw.stage = .conversation)
        ∧ (s.line n).es.gate = true
        ∧ ∃ head rest, (s.line n).ds.queue = head :: rest ∧ head.mark = .none) →
    ((s.line n).es.emission = .idle → conditions →
        s.reviewRequest n
            = { s.updLine n (fun l => { l with es := { l.es with emission := .waitingGen } }) with
                joining := insertLine n s.joining })
      ∧ ((s.line n).es.emission = .waitingGen → ¬ conditions →
          s.reviewRequest n
            = { s.updLine n (fun l => { l with es := { l.es with emission := .idle } }) with
                waiting := s.waiting.filter (· != n), joining := s.joining.filter (· != n) })
      ∧ ((s.line n).es.emission = .idle → ¬ conditions → s.reviewRequest n = s)
      ∧ ((s.line n).es.emission = .waitingGen → conditions → s.reviewRequest n = s)
      ∧ ((s.line n).es.emission = .toneOn ∨ (s.line n).es.emission = .toneOff → s.reviewRequest n = s)

/-- CUT_THROUGH, from a port that the first row of R152 allows: refused WRONG_STATE in IDLE; left in CONVERSATION; from
DIALLING and REJECTED every mark becomes NONE, the held and complete-pending flags are cleared, the end-of-dialling timer
stops and the line moves to CONVERSATION, and may then request. The reply is the stage before (R103). -/
def Obligations.CutThroughMovesToConversation : Prop :=
  ∀ (p : PortId) (n : LineId) (s u : State), u = s.boundaryFirst → u.callPermission n p = none →
    ((u.line n).npw.stage = .idle →
        exec (.cutThrough p (lineTarget n) []) s
          = .next (answered p (request 0x31 (lineTarget n) []) .wrongState [] u))
      ∧ ((u.line n).npw.stage = .conversation →
          exec (.cutThrough p (lineTarget n) []) s = .next (answered p (request 0x31 (lineTarget n) []) .ok [3] u))
      ∧ ((u.line n).npw.stage = .dialling ∨ (u.line n).npw.stage = .rejected →
          exec (.cutThrough p (lineTarget n) []) s
            = .next (answered p (request 0x31 (lineTarget n) []) .ok
              [if (u.line n).npw.stage = .dialling then 1 else 2]
              ((u.updLine n fun l =>
                  { l with
                    ds := { l.ds with queue := l.ds.queue.map fun r => { r with mark := .none } }
                    npw := { l.npw with
                      stage := .conversation, held := false, completePending := false, timer := none } }).reviewRequest
                n)))

/-- PLAN_RELEASE, from a port that the first row of R152 allows: refused WRONG_STATE for a line that is not in DIALLING with
the held flag set. Otherwise the held flag is cleared, a HELD record becomes NONE and the walk stands at the saved node
(step 1); the UNWALKED records are re-walked in queue order, and the reply counts them, 0 when there is none. The re-walk of
one record: at the digit limit it rejects with TOO_LONG; else digits walked rises by 1 and the branch of the current node
decides: CONTINUE marks the record NONE and moves the node; COMPLETE marks it NONE, sets complete-pending and sends
PLAN_COMPLETE; HOLD marks it HELD, sets held with the saved node and sends PLAN_HOLD; REJECT rejects with NO_ROUTE. The other
records of the queue keep their marks. After held, complete-pending or a reject the re-walk stops, with
the record counted; else it goes on with the next (R97). That the record which meets the digit limit is counted is the
model's reading (log 20). -/
def Obligations.PlanReleaseRewalksTheQueue : Prop :=
  (∀ (p : PortId) (n : LineId) (s u v : State), u = s.boundaryFirst → u.callPermission n p = none →
      v = (u.updLine n fun l =>
        { l with
          npw := { l.npw with held := false, node := l.npw.savedNode }
          ds := { l.ds with
            queue := l.ds.queue.map fun r => { r with mark := if r.mark = .held then .none else r.mark } } }) →
      (¬ ((u.line n).npw.stage = .dialling ∧ (u.line n).npw.held = true) →
          exec (.planRelease p (lineTarget n) []) s
            = .next (answered p (request 0x32 (lineTarget n) []) .wrongState [] u))
        ∧ ((u.line n).npw.stage = .dialling → (u.line n).npw.held = true →
            (∀ r ∈ (u.line n).ds.queue, r.mark ≠ .unwalked) →
            exec (.planRelease p (lineTarget n) []) s
              = .next (answered p (request 0x32 (lineTarget n) []) .ok [0] (v.reviewRequest n)))
        ∧ ((u.line n).npw.stage = .dialling → (u.line n).npw.held = true →
            exec (.planRelease p (lineTarget n) []) s
              = .next (answered p (request 0x32 (lineTarget n) []) .ok
                [octet (v.rewalk n ((u.line n).ds.queue.filter fun r : DigitRecord => decide (r.mark = Mark.unwalked))).1]
                ((v.rewalk n ((u.line n).ds.queue.filter fun r : DigitRecord => decide (r.mark = Mark.unwalked))).2.reviewRequest n))))
    ∧ (∀ (s w : State) (n : LineId) (r : DigitRecord) (rest : List DigitRecord) (d : Fin 10) (marked : Mark → State),
      r.symbol = .digit d →
      w = (s.updLine n fun l => { l with npw := { l.npw with walked := l.npw.walked + 1 } }) →
      (∀ m : Mark, marked m = w.updLine n fun l =>
        { l with
          ds := { l.ds with
            queue := l.ds.queue.map fun x => { x with mark := if x.number = r.number then m else x.mark } } }) →
      (24 ≤ (s.line n).npw.walked → s.rewalkOne n r d = s.reject n .tooLong r.seq)
        ∧ ((s.line n).npw.walked < 24 →
            (∀ k : Fin 64, (s.plan[(s.line n).npw.node])[d] = .cont k →
                s.rewalkOne n r d = (marked .none).updLine n fun l => { l with npw := { l.npw with node := k } })
              ∧ ((s.plan[(s.line n).npw.node])[d] = .complete →
                s.rewalkOne n r d
                  = ((marked .none).updLine n fun l => { l with npw := { l.npw with completePending := true } }).send
                    .planComplete n r.seq (s.line n).npw.node.val ((s.line n).npw.walked + 1))
              ∧ (∀ k : Fin 64, (s.plan[(s.line n).npw.node])[d] = .hold k →
                s.rewalkOne n r d
                  = ((marked .held).updLine n fun l => { l with npw := { l.npw with held := true, savedNode := k } }).send
                    .planHold n r.seq (s.line n).npw.node.val d.val)
              ∧ ((s.plan[(s.line n).npw.node])[d] = .reject → s.rewalkOne n r d = w.reject n .noRoute r.seq))
        ∧ (((s.rewalkOne n r d).line n).npw.held = true ∨ ((s.rewalkOne n r d).line n).npw.completePending = true
              ∨ ((s.rewalkOne n r d).line n).npw.stage ≠ .dialling →
            s.rewalk n (r :: rest) = (1, s.rewalkOne n r d))
        ∧ (((s.rewalkOne n r d).line n).npw.held = false → ((s.rewalkOne n r d).line n).npw.completePending = false →
            ((s.rewalkOne n r d).line n).npw.stage = .dialling →
            s.rewalk n (r :: rest)
              = (((s.rewalkOne n r d).rewalk n rest).1 + 1, ((s.rewalkOne n r d).rewalk n rest).2)))

/-- PLAN_DISCARD, from a port that the first row of R152 allows: refused WRONG_STATE for a line that is not in DIALLING with
the held flag set. Otherwise the HELD record and every record behind it return to the free list, oldest first, the line
moves to REJECTED with its flags and timer cleared, PLAN_REJECT with seq 0, reason 3 and the count is sent, and a waiting
line is withdrawn; the reply is the count (R99, R82). -/
def Obligations.PlanDiscardRemovesFromTheHeldRecord : Prop :=
  ∀ (p : PortId) (n : LineId) (s u : State) (ahead behind : List DigitRecord) (held : DigitRecord), u = s.boundaryFirst →
    u.callPermission n p = none →
    (¬ ((u.line n).npw.stage = .dialling ∧ (u.line n).npw.held = true) →
        exec (.planDiscard p (lineTarget n) []) s
          = .next (answered p (request 0x33 (lineTarget n) []) .wrongState [] u))
      ∧ ((u.line n).npw.stage = .dialling → (u.line n).npw.held = true →
          (u.line n).ds.queue = ahead ++ held :: behind → (∀ r ∈ ahead, r.mark ≠ .held) → held.mark = .held →
          exec (.planDiscard p (lineTarget n) []) s
            = .next (answered p (request 0x33 (lineTarget n) []) .ok [octet (behind.length + 1)]
              ((({ u.updLine n (fun l =>
                    { l with
                      ds := { l.ds with queue := ahead }
                      npw := { l.npw with
                        stage := .rejected, held := false, completePending := false, timer := none } }) with
                  freeList := u.freeList ++ (held :: behind).map DigitRecord.number }).send
                .planReject n 0 3 (behind.length + 1)).reviewRequest n)))
      ∧ ((u.line n).npw.stage = .dialling → (u.line n).npw.held = true →
          (∀ r ∈ (u.line n).ds.queue, r.mark ≠ .held) →
          exec (.planDiscard p (lineTarget n) []) s
            = .next (answered p (request 0x33 (lineTarget n) []) .ok
              [octet ((u.line n).ds.queue.filter fun r : DigitRecord => decide (r.mark = Mark.unwalked)).length]
              ((({ u.updLine n (fun l =>
                    { l with
                      ds := { l.ds with queue := l.ds.queue.filter fun r : DigitRecord => decide (r.mark ≠ Mark.unwalked) }
                      npw := { l.npw with
                        stage := .rejected, held := false, completePending := false, timer := none } }) with
                  freeList := u.freeList
                    ++ ((u.line n).ds.queue.filter fun r : DigitRecord => decide (r.mark = Mark.unwalked)).map DigitRecord.number }).send
                .planReject n 0 3
                ((u.line n).ds.queue.filter fun r : DigitRecord => decide (r.mark = Mark.unwalked)).length).reviewRequest n)))

/-- FLASH_ACK, from the owner's port or from port M while the line is in TEST, clears the flash mask in every call stage and
replies with the mask before; nothing else changes. From another port it is refused with the status of R152 and changes
nothing (R33). -/
def Obligations.FlashAckClearsTheMask : Prop :=
  ∀ (p : PortId) (n : LineId) (s u : State), u = s.boundaryFirst →
    (((u.line n).lat.service = .test ∧ p = .m)
        ∨ ((u.line n).lat.service ≠ .test ∧ p ≠ .m ∧ (u.line n).lat.owner.port = some p) →
      exec (.flashAck p (lineTarget n) []) s
        = .next (answered p (request 0x34 (lineTarget n) []) .ok [if (u.line n).pd.flashMask then 1 else 0]
          (u.updLine n fun l => { l with pd := { l.pd with flashMask := false } })))
    ∧ (¬ (((u.line n).lat.service = .test ∧ p = .m)
        ∨ ((u.line n).lat.service ≠ .test ∧ p ≠ .m ∧ (u.line n).lat.owner.port = some p)) →
      exec (.flashAck p (lineTarget n) []) s
        = .next (answered p (request 0x34 (lineTarget n) [])
          (if (u.line n).lat.service = .test then .wrongState else if p = .m then .wrongPort else .notOwner) [] u))

/-- PURGE, from a port that the first row of R152 allows: every record that is not in emission returns to the free list,
oldest first; the reply counts them; a waiting line is withdrawn. The record in emission stays, and the walk, gate, mask and
statistics are left (R79, R113). -/
def Obligations.PurgeKeepsTheRecordInEmission : Prop :=
  ∀ (p : PortId) (n : LineId) (s u : State), u = s.boundaryFirst → u.callPermission n p = none →
    ((u.line n).ds.inEmission = false →
        exec (.purge p (lineTarget n) []) s
          = .next (answered p (request 0x35 (lineTarget n) []) .ok [octet (u.line n).ds.queue.length]
            ({ u.updLine n (fun l => { l with ds := { l.ds with queue := [] } }) with
              freeList := u.freeList ++ (u.line n).ds.queue.map DigitRecord.number }.reviewRequest n)))
      ∧ (∀ (head : DigitRecord) (rest : List DigitRecord), (u.line n).ds.inEmission = true →
          (u.line n).ds.queue = head :: rest →
          exec (.purge p (lineTarget n) []) s
            = .next (answered p (request 0x35 (lineTarget n) []) .ok [octet rest.length]
              ({ u.updLine n (fun l => { l with ds := { l.ds with queue := [head] } }) with
                freeList := u.freeList ++ rest.map DigitRecord.number }.reviewRequest n)))

/-- LINE_RESET, from port M or from the owner's port for a line not in TEST: the line takes the values of R155 with P at P0
of its live entry, gives up its records, generator or waiting place, and playback into it stops; no event is sent and no
other line changes. The reply counts the records removed (R155). The sampler's work of the tick is still to be done (R11,
R15); that the decoder's is dropped is the model's reading (log 24). -/
def Obligations.LineResetClearsTheCall : Prop :=
  (∀ (p : PortId) (n : LineId) (s u : State), u = s.boundaryFirst →
      p = .m ∨ ((u.line n).lat.service ≠ .test ∧ (u.line n).lat.owner.port = some p) →
      exec (.lineReset p (lineTarget n) []) s
        = .next (answered p (request 0x36 (lineTarget n) []) .ok [octet (u.line n).ds.queue.length] (u.lineReset n)))
    ∧ ∀ (u : State) (n : LineId),
        u.lineReset n
          = (playbackStopped (givenUp u n) n).updLine n fun l =>
              lineAfterReset l (u.profiles[l.pt.profileIndex].periodInitial * 16)

/-! ## Maintenance -/

/-- TEST_ENTER from port M on a line in stage IDLE and not in TEST: the service state is saved and becomes TEST, the test
level becomes BREAK, a decoder in SEIZE_PENDING returns to LOOP_OPEN, the candidate count becomes 0; the reply is the service
state before; a line in a call or in TEST is refused WRONG_STATE (R178, R13, R40). TEST_EXIT from port M on a line in TEST: a
debounced change that the tick owes is made (R13), then a line reset, then the saved service state, and the test level is
discarded; the reply is the number of records removed and the service state restored; another line is refused WRONG_STATE
(R179). What else the tick owed the line is dropped by both, and a change is made before TEST_EXIT: the model's reading (log
24). -/
def Obligations.TestEnterAndExitMoveTheLine : Prop :=
  (∀ (n : LineId) (s u : State), u = s.boundaryFirst →
      ((u.line n).lat.service = .test ∨ (u.line n).npw.stage ≠ .idle →
          exec (.testEnter .m (lineTarget n) []) s
            = .next (answered .m (request 0x40 (lineTarget n) []) .wrongState [] u))
        ∧ ((u.line n).lat.service ≠ .test → (u.line n).npw.stage = .idle →
            exec (.testEnter .m (lineTarget n) []) s
              = .next (answered .m (request 0x40 (lineTarget n) []) .ok [octet (u.line n).lat.service.code]
                (u.updLine n fun l =>
                  { l with
                    ls := { l.ls with candidate := 0 }
                    pd := if l.pd.state = .seizePending then { l.pd with state := .loopOpen, seizeTimer := 0 } else l.pd
                    lat := { l.lat with service := .test, savedService := l.lat.service }
                    mu := { l.mu with testLevel := some .brk }
                    due := .nothing }))))
    ∧ (∀ (n : LineId) (s u : State), u = s.boundaryFirst →
      ((u.line n).lat.service ≠ .test →
          exec (.testExit .m (lineTarget n) []) s
            = .next (answered .m (request 0x41 (lineTarget n) []) .wrongState [] u))
        ∧ ((u.line n).lat.service = .test → ∃ v : State, exec (.debouncedStateChange n) u = .next v ∧
            exec (.testExit .m (lineTarget n) []) s
              = .next (answered .m (request 0x41 (lineTarget n) []) .ok
                [octet (u.line n).ds.queue.length, octet (u.line n).lat.savedService.code]
                ((v.lineReset n).updLine n fun l =>
                  { l with
                    lat := { l.lat with service := l.lat.savedService }
                    mu := { l.mu with testLevel := none }
                    due := .nothing }))))

/-- LOAD_PATTERN, START_PATTERN and ABORT_PATTERN from port M: a pattern is loaded, or refused RANGE for a bad segment and
BUSY during playback; playback starts at the first segment with elapsed 0 and the reply gives the sum of the durations, or
it is refused BUSY during playback, else WRONG_STATE for a line not in TEST or without a pattern; an abort ends playback and
replies whether there was one (R180, R181, R182). What the data octets give is spelled out: a segment is bad when its level is
above 1 or its duration outside 1..4095, and else the pattern is the segments in their order. -/
def Obligations.PatternCommandsLoadStartAndAbort : Prop :=
  (∀ (d : List Octet) (count : Nat) (level duration : Nat → Nat), d.length = 3 * count →
      (∀ k : Nat, level k = (d.getD (3 * k) 0).toNat
        ∧ duration k = (d.getD (3 * k + 1) 0).toNat * 256 + (d.getD (3 * k + 2) 0).toNat) →
      ((∃ k : Nat, k < count ∧ (1 < level k ∨ duration k < 1 ∨ 4095 < duration k)) → segmentsOfOctets d = none)
        ∧ ((∀ k : Nat, k < count → level k ≤ 1 ∧ 1 ≤ duration k ∧ duration k ≤ 4095) →
          segmentsOfOctets d
            = some ((List.range count).map fun k => ⟨if level k = 1 then .make else .brk, duration k⟩)))
    ∧
  ∀ (t : Octet) (s u : State), u = s.boundaryFirst →
    (∀ d : List Octet, d.length % 3 = 0 → 3 ≤ d.length → d.length ≤ 48 →
        (segmentsOfOctets d = none →
            exec (.loadPattern .m t d) s = .next (answered .m (request 0x42 t d) .range [] u))
          ∧ (∀ segs : List Segment, segmentsOfOctets d = some segs → u.play.isSome = true →
            exec (.loadPattern .m t d) s = .next (answered .m (request 0x42 t d) .busy [] u))
          ∧ (∀ segs : List Segment, segmentsOfOctets d = some segs → u.play = none →
            exec (.loadPattern .m t d) s
              = .next (answered .m (request 0x42 t d) .ok [octet segs.length] { u with pattern := some segs })))
      ∧ (∀ n : LineId,
          (u.play.isSome = true →
              exec (.startPattern .m (lineTarget n) []) s
                = .next (answered .m (request 0x43 (lineTarget n) []) .busy [] u))
            ∧ (u.play = none → (u.line n).lat.service ≠ .test ∨ u.pattern = none →
              exec (.startPattern .m (lineTarget n) []) s
                = .next (answered .m (request 0x43 (lineTarget n) []) .wrongState [] u))
            ∧ (∀ segs : List Segment, u.play = none → (u.line n).lat.service = .test → u.pattern = some segs →
              exec (.startPattern .m (lineTarget n) []) s
                = .next (answered .m (request 0x43 (lineTarget n) []) .ok
                  [octet ((segs.map Segment.duration).sum / 256), octet (segs.map Segment.duration).sum]
                  { u with play := some { line := n, segment := 0, elapsed := 0 } })))
      ∧ exec (.abortPattern .m t []) s
          = .next (answered .m (request 0x44 t []) .ok [if u.play.isSome then 1 else 0] { u with play := none })

/-- WATCH, READ_WATCH, READ_CHECK and READ_STATS from port M: WATCH selects a line or none, empties the ring and replies with
the line watched before; the reads reply with the ring, the check record and the seven counters, and READ_STATS then clears
the counters; nothing else changes (R183, R184, R185). An entry that the decoder hands for the watched line is stored at the
end of the ring with its kind, verdict, duration up to 4095 and timestamp, and of 16 entries the oldest makes room; an entry
for another line changes nothing (R43, R184). -/
def Obligations.WatchCheckAndStatisticsAreRead : Prop :=
  (∀ (s : State) (n : LineId) (kind : Level) (duration : Nat) (verdict : Verdict),
      (s.watched = some n → s.ring.length < 16 →
          s.watchEntry n kind duration verdict
            = { s with ring := s.ring ++ [⟨kind, verdict, min 4095 duration, s.timestamp⟩] })
        ∧ (s.watched = some n → 16 ≤ s.ring.length →
          s.watchEntry n kind duration verdict
            = { s with ring := s.ring.drop 1 ++ [⟨kind, verdict, min 4095 duration, s.timestamp⟩] })
        ∧ (s.watched ≠ some n → s.watchEntry n kind duration verdict = s))
    ∧
  ∀ (t : Octet) (s u : State), u = s.boundaryFirst →
    (∀ n : LineId,
        exec (.watch .m (lineTarget n) []) s
          = .next (answered .m (request 0x45 (lineTarget n) []) .ok [lineOctet u.watched]
            { u with watched := some n, ring := [] }))
      ∧ exec (.watch .m 255 []) s
          = .next (answered .m (request 0x45 255 []) .ok [lineOctet u.watched] { u with watched := none, ring := [] })
      ∧ exec (.readWatch .m t []) s
          = .next (answered .m (request 0x46 t []) .ok
            ([lineOctet u.watched, octet u.ring.length]
              ++ u.ring.flatMap fun w =>
                [octet w.kind.code, octet w.verdict.code, octet (w.duration / 256), octet w.duration,
                  octet (w.timestamp.toNat / 16777216), octet (w.timestamp.toNat / 65536),
                  octet (w.timestamp.toNat / 256), octet w.timestamp.toNat])
            u)
      ∧ (u.check = none →
          exec (.readCheck .m t []) s = .next (answered .m (request 0x47 t []) .ok [0, 0, 0, 0, 0, 0, 0, 0, 0] u))
      ∧ (∀ c : CheckRecord, u.check = some c →
          exec (.readCheck .m t []) s
            = .next (answered .m (request 0x47 t []) .ok
              [1, octet c.line.val, octet c.symbol.code, octet (c.samples / 256), octet c.samples,
                octet (c.peak / 256), octet c.peak, octet (c.saturated / 256), octet c.saturated]
              u))
      ∧ (∀ (n : LineId) (m : Statistics), m = (u.line n).mu.stats →
          exec (.readStats .m (lineTarget n) []) s
            = .next (answered .m (request 0x48 (lineTarget n) []) .ok
              [octet (m.pulses / 256), octet m.pulses, octet (m.digits / 256), octet m.digits,
                octet (m.overcounts / 256), octet m.overcounts, octet (m.breakErrors / 256), octet m.breakErrors,
                octet (m.glitches / 256), octet m.glitches, octet (m.ratioFlags / 256), octet m.ratioFlags,
                octet (m.flashes / 256), octet m.flashes]
              (u.updLine n fun l =>
                { l with
                  mu := { l.mu with
                    stats :=
                      { pulses := 0, digits := 0, overcounts := 0, breakErrors := 0, glitches := 0, ratioFlags := 0
                        flashes := 0 } } })))

/-- PATTERN_SEGMENT_ADVANCE moves to the next segment with elapsed 0 when the current one has been fed for its duration and
is not the last; PATTERN_DONE ends playback when the last one has, keeps the test level, and sends PATTERN_DONE to port M;
otherwise, without playback or a current segment among the cases, neither changes anything. At a tick playback feeds the
line: its test level becomes the current segment's level and elapsed rises by 1; without a current segment nothing is fed
(R181, R170). -/
def Obligations.PatternSegmentsAdvanceAndEnd : Prop :=
  (∀ s : State, s.play = none ∨ s.pattern = none →
      exec .patternSegmentAdvance s = .next s ∧ exec .patternDone s = .next s ∧ s.feedPattern = s)
    ∧ ∀ (s : State) (pl : Playback) (segs : List Segment), s.play = some pl → s.pattern = some segs →
      (segs.length ≤ pl.segment →
          exec .patternSegmentAdvance s = .next s ∧ exec .patternDone s = .next s ∧ s.feedPattern = s)
        ∧ ∀ seg : Segment, segs[pl.segment]? = some seg →
          (seg.duration ≤ pl.elapsed → pl.segment + 1 < segs.length →
              exec .patternSegmentAdvance s
                  = .next { s with play := some { line := pl.line, segment := pl.segment + 1, elapsed := 0 } }
                ∧ exec .patternDone s = .next s)
            ∧ (seg.duration ≤ pl.elapsed → pl.segment + 1 = segs.length →
                exec .patternSegmentAdvance s = .next s
                  ∧ exec .patternDone s
                    = .next ({ s with play := none }.updPort .m fun q =>
                      q.accept ⟨.patternDone, lineTarget pl.line, (s.line pl.line).lat.epoch, 0, octet segs.length,
                        octet seg.level.code, s.timestamp⟩))
            ∧ (pl.elapsed < seg.duration → exec .patternSegmentAdvance s = .next s ∧ exec .patternDone s = .next s)
            ∧ s.feedPattern
              = { s.updLine pl.line (fun l => { l with mu := { l.mu with testLevel := some seg.level } }) with
                  play := some { line := pl.line, segment := pl.segment, elapsed := pl.elapsed + 1 } }

/-! ## Events and the digit store -/

/-- A record for a line reaches port M when the line is in TEST or has no owner; else the owner's port, and port M as well
when the line is watched; no other port. A port with fewer than 64 records stores it at the tail; a full one counts it, up
to 255 (R144, R165). A port's attention output, which the model computes (log 15), is asserted exactly while its queue holds
a record or its lost count is above 0: after every record delivered to it, and after a READ_EVENTS only when records are left;
a READ_EVENTS on one port leaves the others' outputs, and after power-on reset all three are deasserted (R168). -/
def Obligations.RecordsAreRoutedAndStoredOrCounted : Prop :=
  (∀ (s : State) (k : EventKind) (n : LineId) (q : BitVec 8) (a b : Nat) (p : PortId) (e : Event),
      e = ⟨k, lineTarget n, (s.line n).lat.epoch, q, octet a, octet b, s.timestamp⟩ →
      ((((s.line n).lat.service = .test ∨ (s.line n).lat.owner = .none) ∧ p = .m)
          ∨ ((s.line n).lat.service ≠ .test ∧ (s.line n).lat.owner.port = some p)
          ∨ ((s.line n).lat.service ≠ .test ∧ (s.line n).lat.owner ≠ .none ∧ s.watched = some n ∧ p = .m) →
        (s.send k n q a b).port p = (s.port p).accept e)
      ∧ (¬ ((((s.line n).lat.service = .test ∨ (s.line n).lat.owner = .none) ∧ p = .m)
          ∨ ((s.line n).lat.service ≠ .test ∧ (s.line n).lat.owner.port = some p)
          ∨ ((s.line n).lat.service ≠ .test ∧ (s.line n).lat.owner ≠ .none ∧ s.watched = some n ∧ p = .m)) →
        (s.send k n q a b).port p = s.port p))
    ∧ (∀ (q : Port) (e : Event),
        (q.queue.length < 64 → q.accept e = { q with queue := q.queue ++ [e] })
          ∧ (64 ≤ q.queue.length → q.accept e = { q with lost := min 255 (q.lost + 1) })
          ∧ (q.attention = true ↔ q.queue ≠ [] ∨ 0 < q.lost)
          ∧ (q.accept e).attention = true)
    ∧ (∀ (p : PortId) (t n : Octet) (s u : State), u = s.boundaryFirst → 1 ≤ n.toNat → n.toNat ≤ 16 →
      ∃ v : State, exec (.readEvents p t [n]) s = .next v
        ∧ ((v.port p).attention = true ↔ n.toNat < (u.port p).queue.length)
        ∧ ∀ other : PortId, other ≠ p → (v.port other).attention = (u.port other).attention)
    ∧ ∀ s : State, ∃ v : State, exec .powerOnReset s = .next v ∧ ∀ p : PortId, (v.port p).attention = false

/-- An offer is refused QUEUE_FULL when the line's queue has reached its snapshot's queue_limit, else STORE_FULL when the free
list is empty; else the head of the free list is filled and appended at the tail of the queue. A refusal changes nothing
(R74, R72). -/
def Obligations.OffersAreStoredOrRefused : Prop :=
  ∀ (s : State) (n : LineId) (o : Offer),
    ((s.snapshot n).queueLimit ≤ (s.line n).ds.queue.length → s.offer n o = (some .queueFull, s))
      ∧ ((s.line n).ds.queue.length < (s.snapshot n).queueLimit → s.freeList = [] →
          s.offer n o = (some .storeFull, s))
      ∧ ∀ (r : Fin 256) (rest : List (Fin 256)), (s.line n).ds.queue.length < (s.snapshot n).queueLimit →
          s.freeList = r :: rest →
          s.offer n o
            = (none,
              { s.updLine n (fun l =>
                  { l with
                    ds := { l.ds with
                      queue := l.ds.queue
                        ++ [{ number := r, symbol := o.symbol, pulses := o.pulses, flags := o.flags, seq := o.seq
                              decodedAt := o.decodedAt, mark := o.mark }] } }) with
                freeList := rest })

/-! ## The scan bus and the loop sampler -/

/-- GOOD_FRAME, when a frame is outstanding, completes and takes the frame in whole. It ends a run of missed frames, with
SCAN_RESTORED to the three ports when the scan-loss flag was set (`w`); then it works every line, in line order (the model's
choice, log 8). For a line that waits for the frame the fault kind of the frame is stored, a kind that differs sends
LINE_FAULT, and one other than NONE that differs sets the latch; a line with a fault is frozen; for another the current code
is classified against the thresholds chosen at the tick (log 7) and goes through the settle filter, which hands the debounced
state to the decoder at once unless it is about to change. Lines that do not wait for the frame, the tables, the store, the
pool and the highway are left (R1, R5, R7, R9, R10, R11, R12, R172; the moment of the answer is log 6). -/
def Obligations.GoodFrameIsTakenInWhole : Prop :=
  (∀ (f : Vector Octet 65) (s w : State) (restored : Port → Port), s.scanRequested = true → f[0] = 0x5C →
    (∀ q : Port, restored q
      = if s.scanLoss then q.accept ⟨.scanRestored, 255, 0, 0, octet s.missCount, 0, s.timestamp⟩ else q) →
    w = { s with
      missCount := 0, scanLoss := false, scanRequested := false
      portA := restored s.portA, portB := restored s.portB, portM := restored s.portM } →
    ∃ t : State, exec (.goodFrame f) s = .next t
      ∧ t = allLines.foldl (fun a n => a.scanLine f n) w
      ∧ t = { s with
          lines := t.lines, missCount := 0, scanLoss := false, scanRequested := false, ring := t.ring
          portA := t.portA, portB := t.portB, portM := t.portM }
      ∧ (∀ n : LineId, (∀ params, (s.line n).due ≠ .scan params) → t.line n = s.line n)
      ∧ ∀ (n : LineId) (params : SamplerParams) (code status : Nat) (kind : FaultKind) (sample : Loop),
          (s.line n).due = .scan params → code = (f[1 + 2 * n.val]).toNat → status = (f[2 + 2 * n.val]).toNat →
          kind = (if status = 0 then .none else if status = 1 then .foreignVoltage
            else if status = 2 then .groundFault else .notFitted) →
          sample = (if params.makeThreshold ≤ code then .closed else if code ≤ params.breakThreshold then .opened
            else (s.line n).ls.loop) →
          (t.line n).ls.faultKind = kind
            ∧ (t.line n).ls.faultLatch
                = ((s.line n).ls.faultLatch || decide (kind ≠ .none ∧ kind ≠ (s.line n).ls.faultKind))
            ∧ (t.line n).ls.loop = (s.line n).ls.loop
            ∧ (kind ≠ .none →
                (t.line n).ls.candidate = (s.line n).ls.candidate ∧ (t.line n).pd = (s.line n).pd
                  ∧ (t.line n).due = .nothing)
            ∧ (kind = .none → sample = (s.line n).ls.loop → (t.line n).ls.candidate = 0)
            ∧ (kind = .none → sample ≠ (s.line n).ls.loop →
                (t.line n).ls.candidate = (s.line n).ls.candidate + 1
                  ∧ (params.settleCount ≤ (s.line n).ls.candidate + 1 →
                    (t.line n).due = .change ∧ (t.line n).pd = (s.line n).pd)))
    ∧ (∀ (s : State) (n : LineId) (kind old : FaultKind), old = (s.line n).ls.faultKind →
      (kind = old → s.compareFault n kind = s)
        ∧ (kind ≠ old →
          s.compareFault n kind
            = (s.updLine n fun l =>
              { l with
                ls := { l.ls with
                  faultKind := kind, faultLatch := l.ls.faultLatch || decide (kind ≠ .none) } }).send
              .lineFault n 0 kind.code old.code))
    ∧ (∀ (s : State) (n : LineId) (f : Vector Octet 65) (params : SamplerParams) (v : State),
      (s.line n).due = .scan params → v = s.compareFault n (FaultKind.ofOctet (f[2 + 2 * n.val])) →
      ((v.line n).ls.faultKind = .none →
          s.scanLine f n
            = v.settle n (classifyCode params (f[1 + 2 * n.val]).toNat (v.line n).ls.loop) params.settleCount)
        ∧ ((v.line n).ls.faultKind ≠ .none → s.scanLine f n = v.updLine n fun l => { l with due := .nothing }))
    ∧ (∀ (s : State) (n : LineId) (f : Vector Octet 65), (∀ params, (s.line n).due ≠ .scan params) → s.scanLine f n = s)
    ∧ (∀ (o : Octet), FaultKind.ofOctet o = (if o.toNat = 0 then .none else if o.toNat = 1 then .foreignVoltage
        else if o.toNat = 2 then .groundFault else .notFitted))
    ∧ (∀ (params : SamplerParams) (code : Nat) (held : Loop), classifyCode params code held
        = (if params.makeThreshold ≤ code then .closed else if code ≤ params.breakThreshold then .opened else held))
    ∧ ∀ (s : State) (n : LineId) (sample : Loop) (settleCount : Nat),
      (sample = (s.line n).ls.loop →
          s.settle n sample settleCount = (s.updLine n fun l => { l with ls := { l.ls with candidate := 0 } }).hand n)
        ∧ (sample ≠ (s.line n).ls.loop → settleCount ≤ (s.line n).ls.candidate + 1 →
          s.settle n sample settleCount
            = s.updLine n fun l => { l with ls := { l.ls with candidate := l.ls.candidate + 1 }, due := .change })
        ∧ (sample ≠ (s.line n).ls.loop → (s.line n).ls.candidate + 1 < settleCount →
          s.settle n sample settleCount
            = (s.updLine n fun l => { l with ls := { l.ls with candidate := l.ls.candidate + 1 } }).hand n)

/-- A missed frame, and an answer with a wrong marker, raise the miss count up to 255 and freeze every line that waits for
the frame, and change nothing else; neither acts when no frame is outstanding. SCAN_LOSS acts when the count stands at 8
with the flag clear: the flag is set and the record goes to all three ports; else nothing changes. A frame that is still
outstanding when the next tick opens is a missed frame of the old tick (`closeTick`), with the scan loss that it may bring
(R1, R3, R4, R9; the moment of the answer is log 6). -/
def Obligations.MissedFramesAreCounted : Prop :=
  ∀ (s : State) (f : Vector Octet 65),
    (s.scanRequested = true →
        ∃ t : State, exec .missedFrame s = .next t
          ∧ (f[0] ≠ 0x5C → exec (.goodFrame f) s = .next t)
          ∧ t = { s with lines := t.lines, missCount := min 255 (s.missCount + 1), scanRequested := false }
          ∧ ∀ n : LineId,
              ((∀ params, (s.line n).due ≠ .scan params) → t.line n = s.line n)
                ∧ ∀ params, (s.line n).due = .scan params → t.line n = { s.line n with due := .nothing })
      ∧ (s.scanRequested = false → exec .missedFrame s = .next s ∧ exec (.goodFrame f) s = .next s)
      ∧ (s.missCount = 8 → s.scanLoss = false →
          exec .scanLoss s
            = .next { s with
                scanLoss := true
                portA := s.portA.accept ⟨.scanLoss, 255, 0, 0, 8, 0, s.timestamp⟩
                portB := s.portB.accept ⟨.scanLoss, 255, 0, 0, 8, 0, s.timestamp⟩
                portM := s.portM.accept ⟨.scanLoss, 255, 0, 0, 8, 0, s.timestamp⟩ })
      ∧ (¬ (s.missCount = 8 ∧ s.scanLoss = false) → exec .scanLoss s = .next s)
      ∧ (s.scanRequested = false → s.closeTick = s)
      ∧ ∀ t u : State, s.scanRequested = true → exec .missedFrame s = .next t → exec .scanLoss t = .next u →
          s.closeTick = u

/-- DEBOUNCED_STATE_CHANGE, when the candidate count has reached settle_count: the debounced state becomes the other one, the
count 0, and the new state is handed to the decoder; else nothing changes (R11, R12). The sample that a line in TEST takes at
a tick, CLOSED for a level of MAKE and else OPEN, goes through the same settle filter, with the settle_count of the snapshot
in a call and of the live entry in stage IDLE; a line not in TEST takes none there (R6, R13). -/
def Obligations.DebouncedChangeFlipsTheLoop : Prop :=
  ∀ (n : LineId) (s : State),
    ((s.line n).due = .change →
        exec (.debouncedStateChange n) s
          = .next ((s.updLine n fun l =>
            { l with ls := { l.ls with loop := (if l.ls.loop = .opened then .closed else .opened), candidate := 0 } }).hand
              n))
      ∧ ((s.line n).due ≠ .change → exec (.debouncedStateChange n) s = .next s)
      ∧ (∀ e : Profile, (s.line n).lat.service = .test →
          e = (if (s.line n).npw.stage = .idle then s.profiles[(s.line n).pt.profileIndex] else (s.line n).pt.snapshot) →
          s.sampleTestLine n
            = s.settle n (if (s.line n).mu.testLevel = some .make then .closed else .opened) e.settleCount)
      ∧ ((s.line n).lat.service ≠ .test → s.sampleTestLine n = s)

/-! ## The pulse decoder -/

/-- The loop state handed at a tick moves the decoder of a line IN_SERVICE or in TEST as R17 orders it: LOOP_OPEN and CLOSED
give SEIZE_PENDING; OPEN in SEIZE_PENDING gives LOOP_OPEN; OPEN in MAKE gives BREAK with m_prev; in BREAK the release limit
comes first, then CLOSED gives MAKE_PENDING with b; OPEN in MAKE_PENDING within make_min folds the make into its break. Where
the state does not differ the timer limits are left to be tested. A line OUT_OF_SERVICE is left (R17 to R19, R22 to R25).
What the seize timer holds after OPEN in SEIZE_PENDING is the model's choice (log 18). -/
def Obligations.HandedLoopMovesTheDecoder : Prop :=
  ∀ (n : LineId) (s : State) (l : Line) (e : Profile), l = s.line n → e = s.snapshot n →
    (l.lat.service = .outOfService → s.hand n = s.updLine n fun x => { x with due := .nothing })
      ∧ (l.lat.service ≠ .outOfService →
        (l.pd.state = .loopOpen → l.ls.loop = .opened → s.hand n = s.updLine n fun x => { x with due := .nothing })
        ∧ (l.pd.state = .loopOpen → l.ls.loop = .closed →
            s.hand n = s.updLine n fun x =>
              { x with pd := { x.pd with state := .seizePending, seizeTimer := 0 }, due := .nothing })
        ∧ (l.pd.state = .seizePending → l.ls.loop = .closed →
            s.hand n = s.updLine n fun x =>
              { x with pd := { x.pd with seizeTimer := min 65535 (x.pd.seizeTimer + 1) }, due := .limits })
        ∧ (l.pd.state = .seizePending → l.ls.loop = .opened →
            s.hand n = (s.watchEntry n .make (min 65535 (l.pd.seizeTimer + 1)) .glitch).updLine n fun x =>
              { x with
                pd := { x.pd with state := .loopOpen, seizeTimer := min 65535 (x.pd.seizeTimer + 1) }, due := .nothing })
        ∧ (l.pd.state = .make → l.ls.loop = .closed →
            s.hand n = s.updLine n fun x =>
              { x with pd := { x.pd with makeTimer := min 65535 (x.pd.makeTimer + 1) }, due := .limits })
        ∧ (l.pd.state = .make → l.ls.loop = .opened →
            s.hand n = s.updLine n fun x =>
              { x with
                pd := { x.pd with
                  state := .brk, makeTimer := min 65535 (x.pd.makeTimer + 1)
                  mPrev := min 65535 (x.pd.makeTimer + 1), breakTimer := 0
                  flags := if x.pd.inDigit then x.pd.flags else {} }
                due := .nothing })
        ∧ (l.pd.state = .brk → e.flashMax + 1 ≤ min 65535 (l.pd.breakTimer + 1) →
            s.hand n = s.updLine n fun x =>
              { x with pd := { x.pd with breakTimer := min 65535 (x.pd.breakTimer + 1) }, due := .release })
        ∧ (l.pd.state = .brk → min 65535 (l.pd.breakTimer + 1) < e.flashMax + 1 → l.ls.loop = .opened →
            s.hand n = s.updLine n fun x =>
              { x with pd := { x.pd with breakTimer := min 65535 (x.pd.breakTimer + 1) }, due := .nothing })
        ∧ (l.pd.state = .brk → min 65535 (l.pd.breakTimer + 1) < e.flashMax + 1 → l.ls.loop = .closed →
            s.hand n = s.updLine n fun x =>
              { x with
                pd := { x.pd with
                  state := .makePending, breakTimer := min 65535 (x.pd.breakTimer + 1)
                  b := min 65535 (x.pd.breakTimer + 1), makeTimer := 0 }
                due := .nothing })
        ∧ (l.pd.state = .makePending → l.ls.loop = .closed →
            s.hand n = s.updLine n fun x =>
              { x with pd := { x.pd with makeTimer := min 65535 (x.pd.makeTimer + 1) }, due := .limits })
        ∧ (l.pd.state = .makePending → l.ls.loop = .opened → min 65535 (l.pd.makeTimer + 1) ≤ e.makeMin →
            s.hand n = (s.watchEntry n .make (min 65535 (l.pd.makeTimer + 1)) .glitch).updLine n fun x =>
              { x with
                pd := { x.pd with
                  state := .brk, makeTimer := min 65535 (x.pd.makeTimer + 1)
                  breakTimer := min 65535 (x.pd.b + min 65535 (x.pd.makeTimer + 1))
                  flags := { x.pd.flags with bounce := true } }
                mu := { x.mu with stats := { x.mu.stats with glitches := min 65535 (x.mu.stats.glitches + 1) } }
                due := if e.flashMax + 1 ≤ min 65535 (l.pd.b + min 65535 (l.pd.makeTimer + 1)) then .release
                  else .nothing }))

/-- SEIZURE, when a closed loop has held the seize timer at seize_time of the live entry: the decoder enters MAKE with the
make timer at the seize timer, the snapshot is taken from the live entry, SEIZED with the profile index is sent, the line
enters DIALLING at plan_root with the walk cleared, the gate closes (opens in TEST), the auto-proceed timer starts when the
line is not in TEST and auto_proceed is not 0, and the watch entry follows. Otherwise nothing changes (R19, R20, R63, R88,
R108, R110). -/
def Obligations.SeizureBeginsTheCall : Prop :=
  ∀ (n : LineId) (s u : State) (l : Line) (e : Profile), u = s.boundaryFirst → l = u.line n →
    e = u.profiles[l.pt.profileIndex] →
    (l.due = .limits → l.pd.state = .seizePending → e.seizeTime ≤ l.pd.seizeTimer →
        exec (.seizure n) s
          = .next (((u.updLine n fun x =>
              { x with
                pd := { x.pd with
                  state := .make, inDigit := false, makeTimer := x.pd.seizeTimer, pulseCount := 0
                  flags := { ratioLow := false, ratioHigh := false, bounce := false }, seq := 0, tId := none
                  seizeTimer := 0 }
                pt := { x.pt with snapshot := e }
                npw :=
                  { stage := .dialling, held := false, completePending := false, node := Fin.ofNat 64 e.planRoot
                    savedNode := 0, walked := 0, digitSeen := false, timer := none }
                es := { x.es with
                  gate := decide (x.lat.service = .test)
                  autoTimer := if x.lat.service ≠ .test ∧ e.autoProceed ≠ 0 then some 0 else none }
                due := .nothing }).send .seized n 0 l.pt.profileIndex.val 0).watchEntry
            n .make l.pd.seizeTimer .seize))
      ∧ (¬ (l.due = .limits ∧ l.pd.state = .seizePending ∧ e.seizeTime ≤ l.pd.seizeTimer) →
          exec (.seizure n) s = .next u)

/-- MAKE_CONFIRMED of a pulse (a break of break_min to break_max, confirmed at make_min): the decoder enters MAKE at
make_min. The first pulse opens the digit with T_id from P; a pulse pair raises the count up to 15, moves P one eighth of
the way to (m_prev + b) × 16 within 960..2560, sets the ratio flags, and recomputes T_id. Statistics and the watch entry
follow (R26, R28, R50 to R53, R55, R56). -/
def Obligations.ConfirmedPulsesBuildTheDigit : Prop :=
  ∀ (n : LineId) (s u : State) (l : Line) (e : Profile) (p ratio : Nat), u = s.boundaryFirst → l = u.line n →
    e = l.pt.snapshot → l.due = .limits → l.pd.state = .makePending → e.makeMin ≤ l.pd.makeTimer →
    e.breakMin ≤ l.pd.b → l.pd.b ≤ e.breakMax →
    p = max 960 (min 2560 ((7 * l.pd.period + (l.pd.mPrev + l.pd.b) * 16 + 4) / 8)) →
    ratio = 100 * l.pd.b / (l.pd.mPrev + l.pd.b) →
    (l.pd.inDigit = false →
        exec (.makeConfirmed n) s
          = .next ((u.updLine n fun x =>
            { x with
              pd := { x.pd with
                state := .make, makeTimer := e.makeMin, pulseCount := 1, inDigit := true
                tId := some (max e.interdigitMin (x.pd.period * e.interdigitFactor / 64)) }
              mu := { x.mu with stats := { x.mu.stats with pulses := min 65535 (x.mu.stats.pulses + 1) } }
              due := .nothing }).watchEntry n .brk l.pd.b .pulse))
      ∧ (l.pd.inDigit = true →
          exec (.makeConfirmed n) s
            = .next ((u.updLine n fun x =>
              { x with
                pd := { x.pd with
                  state := .make, makeTimer := e.makeMin, pulseCount := min 15 (x.pd.pulseCount + 1), period := p
                  tId := some (max e.interdigitMin (p * e.interdigitFactor / 64))
                  flags := { x.pd.flags with
                    ratioLow := x.pd.flags.ratioLow || decide (ratio < e.ratioLow)
                    ratioHigh := x.pd.flags.ratioHigh || decide (e.ratioHigh < ratio) } }
                mu := { x.mu with
                  stats := { x.mu.stats with
                    pulses := min 65535 (x.mu.stats.pulses + 1)
                    ratioFlags :=
                      if ratio < e.ratioLow ∨ e.ratioHigh < ratio then min 65535 (x.mu.stats.ratioFlags + 1)
                      else x.mu.stats.ratioFlags } }
                due := .nothing }).watchEntry n .brk l.pd.b .pulse))

/-- MAKE_CONFIRMED of the other classes of break. A glitch break (below break_min) is folded into the make before it and the
digit limit is still to be tested. A break error (break_max to flash_min) abandons the digit and sends BREAK_ERROR. A flash
(from flash_min on) abandons the digit; masked, it is only counted; unmasked, it takes a sequence number, sets the mask,
sends FLASH and in CONVERSATION with flash_tone ON offers an FL record. Where no confirmation is due, nothing changes (R26,
R27, R29 to R32). That a break above flash_max, which no run leaves to be confirmed, is classed as a flash is the model's
choice (log 19). -/
def Obligations.OtherBreaksAreClassified : Prop :=
  ∀ (n : LineId) (s u : State) (l : Line) (e : Profile), u = s.boundaryFirst → l = u.line n → e = l.pt.snapshot →
    (¬ (l.due = .limits ∧ l.pd.state = .makePending ∧ e.makeMin ≤ l.pd.makeTimer) →
        exec (.makeConfirmed n) s = .next u)
      ∧ (l.due = .limits → l.pd.state = .makePending → e.makeMin ≤ l.pd.makeTimer →
        (l.pd.b < e.breakMin →
            exec (.makeConfirmed n) s
              = .next ((u.updLine n fun x =>
                { x with
                  pd := { x.pd with
                    state := .make, makeTimer := min 65535 (x.pd.mPrev + x.pd.b + e.makeMin)
                    flags := { x.pd.flags with bounce := x.pd.flags.bounce || x.pd.inDigit } }
                  mu := { x.mu with stats := { x.mu.stats with glitches := min 65535 (x.mu.stats.glitches + 1) } }
                  due := .limits }).watchEntry n .brk l.pd.b .glitch))
        ∧ (e.breakMin ≤ l.pd.b → e.breakMax < l.pd.b → l.pd.b < e.flashMin →
            exec (.makeConfirmed n) s
              = .next (((u.updLine n fun x =>
                { x with
                  pd := { x.pd with
                    state := .make, makeTimer := e.makeMin, inDigit := false, tId := none, pulseCount := 0 }
                  mu := { x.mu with
                    stats := { x.mu.stats with breakErrors := min 65535 (x.mu.stats.breakErrors + 1) } }
                  due := .nothing }).send .breakError n 0 (min 255 (l.pd.b / 4)) l.pd.pulseCount).watchEntry
                n .brk l.pd.b .breakError))
        ∧ (e.breakMin ≤ l.pd.b → e.breakMax < l.pd.b → e.flashMin ≤ l.pd.b → l.pd.flashMask = true →
            exec (.makeConfirmed n) s
              = .next ((u.updLine n fun x =>
                { x with
                  pd := { x.pd with
                    state := .make, makeTimer := e.makeMin, inDigit := false, tId := none, pulseCount := 0 }
                  mu := { x.mu with stats := { x.mu.stats with flashes := min 65535 (x.mu.stats.flashes + 1) } }
                  due := .nothing }).watchEntry n .brk l.pd.b .flashMasked))
        ∧ (e.breakMin ≤ l.pd.b → e.breakMax < l.pd.b → e.flashMin ≤ l.pd.b → l.pd.flashMask = false →
            ∀ v w : State,
              v = (u.updLine n fun x =>
                { x with
                  pd := { x.pd with
                    state := .make, makeTimer := e.makeMin, inDigit := false, tId := none, pulseCount := 0
                    seq := x.pd.seq + 1, flashMask := true }
                  due := .nothing }).send .flash n (l.pd.seq + 1) (min 255 (l.pd.b / 4)) l.pd.pulseCount →
              w = (if e.flashTone = true ∧ l.npw.stage = .conversation then
                    match v.offer n ⟨.fl, 0, {}, l.pd.seq + 1, u.timestamp, .none⟩ with
                    | (none, t) => t.reviewRequest n
                    | (some why, t) => t.send .digitDropped n (l.pd.seq + 1) why.code 0
                  else v) →
              exec (.makeConfirmed n) s
                = .next ((w.updLine n fun x =>
                  { x with
                    mu := { x.mu with
                      stats := { x.mu.stats with flashes := min 65535 (x.mu.stats.flashes + 1) } } }).watchEntry
                  n .brk l.pd.b .flash)))

/-- DIGIT_COMPLETE, when the make of a digit in progress has reached T_id: the digit ends and takes the next sequence number,
with its INTER_DIGIT watch entry. One to ten pulses, mapped by the numbering, count a digit, send DIGIT_DECODED when
digit_reports is ON, and go to the walker; eleven or more count an overcount and send DIGIT_DROPPED with reason 0. Where no
completion is due, nothing changes (R34 to R36, R38). -/
def Obligations.CompletedDigitsAreMapped : Prop :=
  ∀ (n : LineId) (s u v : State) (l : Line) (e : Profile) (flags : Nat), u = s.boundaryFirst → l = u.line n →
    e = l.pt.snapshot →
    flags = (if l.pd.flags.ratioLow then 1 else 0) + (if l.pd.flags.ratioHigh then 2 else 0)
      + (if l.pd.flags.bounce then 4 else 0) →
    v = (u.updLine n fun x =>
      { x with
        pd := { x.pd with inDigit := false, tId := none, pulseCount := 0, seq := x.pd.seq + 1 }
        due := .nothing }).watchEntry n .make l.pd.makeTimer .interDigit →
    (¬ (l.due = .limits ∧ l.pd.state = .make ∧ l.pd.inDigit = true
          ∧ ∃ threshold, l.pd.tId = some threshold ∧ threshold ≤ l.pd.makeTimer) →
        exec (.digitComplete n) s = .next u)
      ∧ ∀ threshold : Nat, l.due = .limits → l.pd.state = .make → l.pd.inDigit = true →
          l.pd.tId = some threshold → threshold ≤ l.pd.makeTimer →
          (11 ≤ l.pd.pulseCount →
              exec (.digitComplete n) s
                = .next ((v.updLine n fun x =>
                  { x with
                    mu := { x.mu with
                      stats := { x.mu.stats with overcounts := min 65535 (x.mu.stats.overcounts + 1) } } }).send
                  .digitDropped n (l.pd.seq + 1) 0 (l.pd.pulseCount + 16 * flags)))
            ∧ ∀ (symbol : Fin 10) (w : State), 1 ≤ l.pd.pulseCount → l.pd.pulseCount ≤ 10 →
              (e.numbering = .standard → symbol.val = l.pd.pulseCount % 10) →
              (e.numbering = .inverted → symbol.val = 10 - l.pd.pulseCount) →
              (e.numbering = .offset → symbol.val = l.pd.pulseCount - 1) →
              w = (v.updLine n fun x =>
                { x with
                  mu := { x.mu with stats := { x.mu.stats with digits := min 65535 (x.mu.stats.digits + 1) } } }) →
              exec (.digitComplete n) s
                = .next ((if e.digitReports then
                    w.send .digitDecoded n (l.pd.seq + 1) symbol.val (l.pd.pulseCount + 16 * flags)
                  else w).digitToWalker n ⟨symbol, l.pd.pulseCount, l.pd.flags, l.pd.seq + 1, u.timestamp⟩)

/-- A digit that reaches the walker is discarded in REJECTED; offered NONE in CONVERSATION, with DIGIT_DROPPED for a refusal;
offered UNWALKED in DIALLING while held or complete-pending, a refusal being a reject with OVERFLOW; and walked otherwise:
at the digit limit rejected TOO_LONG, else by the branch of the current node (R92 to R95, R104). -/
def Obligations.DigitsAreWalkedByStage : Prop :=
  ∀ (s w x : State) (n : LineId) (d : Digit) (l : Line) (offered : Mark → Offer), l = s.line n →
    (∀ m : Mark, offered m = ⟨.digit d.symbol, d.pulses, d.flags, d.seq, d.decodedAt, m⟩) →
    w = (s.updLine n fun y => { y with npw := { y.npw with digitSeen := true } }) →
    x = (w.updLine n fun y => { y with npw := { y.npw with walked := y.npw.walked + 1 } }) →
    (l.npw.stage = .rejected → s.digitToWalker n d = s)
      ∧ (l.npw.stage = .conversation → ∀ t : State,
          (s.offer n (offered .none) = (none, t) → s.digitToWalker n d = t.reviewRequest n)
            ∧ ∀ why : StoreRefusal, s.offer n (offered .none) = (some why, t) →
              s.digitToWalker n d = t.send .digitDropped n d.seq why.code (d.pulses + 16 * d.flags.value))
      ∧ (l.npw.stage = .dialling →
          (l.npw.held = true ∨ l.npw.completePending = true → ∀ t : State,
              (w.offer n (offered .unwalked) = (none, t) → s.digitToWalker n d = t.reviewRequest n)
                ∧ ∀ why : StoreRefusal, w.offer n (offered .unwalked) = (some why, t) →
                  s.digitToWalker n d = t.reject n .overflow d.seq)
            ∧ (l.npw.held = false → l.npw.completePending = false →
              (24 ≤ l.npw.walked → s.digitToWalker n d = w.reject n .tooLong d.seq)
                ∧ (l.npw.walked < 24 →
                  (s.plan[l.npw.node][d.symbol] = .reject → s.digitToWalker n d = x.reject n .noRoute d.seq)
                    ∧ (∀ t : State, ∀ why : StoreRefusal,
                      (∃ m, (m = .none ∧ (s.plan[l.npw.node][d.symbol] = .complete
                            ∨ ∃ k, s.plan[l.npw.node][d.symbol] = .cont k)
                          ∨ m = .held ∧ ∃ k, s.plan[l.npw.node][d.symbol] = .hold k)
                        ∧ x.offer n (offered m) = (some why, t)) →
                      s.digitToWalker n d = t.reject n .overflow d.seq)
                    ∧ (∀ (t : State) (k : Fin 64), s.plan[l.npw.node][d.symbol] = .cont k →
                      x.offer n (offered .none) = (none, t) →
                      s.digitToWalker n d
                        = (t.updLine n fun y => { y with npw := { y.npw with node := k } }).reviewRequest n)
                    ∧ (∀ t : State, s.plan[l.npw.node][d.symbol] = .complete →
                      x.offer n (offered .none) = (none, t) →
                      s.digitToWalker n d
                        = ((t.updLine n fun y => { y with npw := { y.npw with completePending := true } }).send
                          .planComplete n d.seq l.npw.node.val (l.npw.walked + 1)).reviewRequest n)
                    ∧ (∀ (t : State) (k : Fin 64), s.plan[l.npw.node][d.symbol] = .hold k →
                      x.offer n (offered .held) = (none, t) →
                      s.digitToWalker n d
                        = ((t.updLine n fun y => { y with npw := { y.npw with held := true, savedNode := k } }).send
                          .planHold n d.seq l.npw.node.val d.symbol.val).reviewRequest n))))

/-- A reject moves the line to REJECTED with held, complete-pending and the timer cleared, returns every record that is not
in emission to the free list, oldest first, sends PLAN_REJECT with the seq, the reason and the number of records purged, and
withdraws a waiting line (R95, R82, R113). -/
def Obligations.RejectPurgesAndReports : Prop :=
  ∀ (s : State) (n : LineId) (reason : RejectReason) (seq : BitVec 8) (kept gone : List DigitRecord),
    (s.line n).ds.queue = kept ++ gone →
    ((s.line n).ds.inEmission = false ∧ kept = []) ∨ ((s.line n).ds.inEmission = true ∧ kept.length = 1) →
    s.reject n reason seq
      = ((({ s.updLine n (fun l =>
            { l with
              npw := { l.npw with stage := .rejected, held := false, completePending := false, timer := none }
              ds := { l.ds with queue := kept } }) with
          freeList := s.freeList ++ gone.map DigitRecord.number }).send
        .planReject n seq reason.code gone.length).reviewRequest n)

/-- RELEASE, when the break has reached flash_max + 1: the decoder returns to LOOP_OPEN with its timers and the flash mask
cleared and the digit abandoned; the line is in IDLE with its walk, queue and emission cleared, gives up its records,
generator or waiting place; RELEASED with the number of records and the abandoned pulse count is sent, and the watch entry
follows. P, the sequence number and the quality flags stay. Otherwise nothing changes (R24, R39, R81, R105, R120). -/
def Obligations.ReleaseEndsTheCall : Prop :=
  ∀ (n : LineId) (s u : State) (l : Line), u = s.boundaryFirst → l = u.line n →
    (l.due ≠ .release → exec (.release n) s = .next u)
      ∧ (l.due = .release →
          exec (.release n) s
            = .next ((((givenUp u n).updLine n fun x =>
              { x with
                pd := { x.pd with
                  state := .loopOpen, seizeTimer := 0, breakTimer := 0, makeTimer := 0, inDigit := false, tId := none
                  pulseCount := 0, flashMask := false }
                npw :=
                  { stage := .idle, held := false, completePending := false, node := 0, savedNode := 0, walked := 0
                    digitSeen := false, timer := none }
                ds := { queue := [], inEmission := false }
                es := { gate := false, autoTimer := none, emission := .idle, remaining := 0, generator := none }
                due := .nothing }).send .released n 0 l.ds.queue.length l.pd.pulseCount).watchEntry
              n .brk l.pd.breakTimer .release))

/-! ## The call timers -/

/-- DIAL_TIMEOUT, when the end-of-dialling timer has reached end_timeout and its conditions hold: the record with digits
walked and the complete-pending flag is sent, and the line moves to CONVERSATION with its flags and timer cleared; where a
condition has failed the timer stops; before end_timeout nothing changes. AUTO_PROCEED_EXPIRY, when the auto-proceed timer
has reached auto_proceed: the gate opens and the timer stops, and the line may request; before that nothing changes (R101,
R102, R110). -/
def Obligations.CallTimersExpire : Prop :=
  ∀ (n : LineId) (s u : State) (l : Line), u = s.boundaryFirst → l = u.line n →
    ((∀ t, l.npw.timer = some t → t < l.pt.snapshot.endTimeout) → exec (.dialTimeout n) s = .next u)
      ∧ (∀ (t : Nat) (runs : Prop), l.npw.timer = some t → l.pt.snapshot.endTimeout ≤ t →
          (runs ↔ l.npw.stage = .dialling ∧ l.npw.digitSeen = true ∧ l.ds.queue = [] ∧ l.pd.inDigit = false
            ∧ l.es.emission ≠ .toneOn ∧ l.es.emission ≠ .toneOff ∧ l.npw.held = false) →
          (runs →
              exec (.dialTimeout n) s
                = .next (((u.send .dialTimeout n 0 l.npw.walked (if l.npw.completePending then 1 else 0)).updLine n
                  fun x =>
                    { x with
                      npw := { x.npw with
                        stage := .conversation, held := false, completePending := false
                        timer := none } }).reviewRequest n))
            ∧ (¬ runs →
              exec (.dialTimeout n) s
                = .next (u.updLine n fun x => { x with npw := { x.npw with timer := none } })))
      ∧ ((∀ t, l.es.autoTimer = some t → t < l.pt.snapshot.autoProceed) → exec (.autoProceedExpiry n) s = .next u)
      ∧ (∀ t : Nat, l.es.autoTimer = some t → l.pt.snapshot.autoProceed ≤ t →
          exec (.autoProceedExpiry n) s
            = .next ((u.updLine n fun x =>
              { x with es := { x.es with gate := true, autoTimer := none } }).reviewRequest n))

/-! ## Emission -/

/-- GENERATOR_GRANT, when the arbiter is due at a boundary: the k-th waiting line, in list order, gets the k-th free
generator, lowest number first, as long as there are both; it goes to TONE_ON with tone_on × 8 samples and its head in
emission, and the generator is set up with the head's symbol and the snapshot's levels at phase 0, and for a line in TEST
with a fresh measure. Lines without a grant, other generators, the store and the ports are left, and the lines granted leave
the list. Where the arbiter is not due nothing changes (R115, R116, R77, R183). The increments of each symbol are those of the
table of R136. -/
def Obligations.ArbiterGrantsInOrder : Prop :=
  (∀ (d : Fin 10) (low high : BitVec 16),
      (d, low, high) ∈ [((1 : Fin 10), (5710 : BitVec 16), (9904 : BitVec 16)), (2, 5710, 10945), (3, 5710, 12100),
        (4, 6308, 9904), (5, 6308, 10945), (6, 6308, 12100), (7, 6980, 9904), (8, 6980, 10945), (9, 6980, 12100),
        (0, 7709, 10945)] →
      (Symbol.digit d).incLow = low ∧ (Symbol.digit d).incHigh = high)
    ∧ Symbol.fl.incLow = 7709 ∧ Symbol.fl.incHigh = 13378 ∧
    (∀ s : State, s.arbiterDue = false → exec .generatorGrant s = .next s)
    ∧ ∀ (s : State) (free : List (Fin 8)), s.arbiterDue = true → s.waiting.Nodup →
        free = allGenerators.filter (fun g => (s.gen g).holder.isNone) →
        (∀ n ∈ s.waiting, (s.line n).ds.queue ≠ []) →
        ∃ t : State, exec .generatorGrant s = .next t
          ∧ t = { s with
              lines := t.lines, gens := t.gens, waiting := s.waiting.drop free.length, arbiterDue := false }
          ∧ (∀ (k : Nat) (n : LineId) (g : Fin 8) (head : DigitRecord) (rest : List DigitRecord),
              s.waiting[k]? = some n → free[k]? = some g → (s.line n).ds.queue = head :: rest →
              t.line n
                  = { s.line n with
                      es := { (s.line n).es with
                        emission := .toneOn, remaining := (s.line n).pt.snapshot.toneOn * 8, generator := some g }
                      ds := { (s.line n).ds with inEmission := true } }
                ∧ t.gen g
                  = { holder := some n, symbol := head.symbol, incLow := head.symbol.incLow
                      incHigh := head.symbol.incHigh, levelLow := (s.line n).pt.snapshot.levelLow
                      levelHigh := (s.line n).pt.snapshot.levelHigh, phaseLow := 0, phaseHigh := 0
                      peak := if (s.line n).lat.service = .test then 0 else (s.gen g).peak
                      saturated := if (s.line n).lat.service = .test then 0 else (s.gen g).saturated })
          ∧ (∀ n : LineId, n ∉ s.waiting.take free.length → t.line n = s.line n)
          ∧ ∀ g : Fin 8, g ∉ free.take s.waiting.length → t.gen g = s.gen g

/-- ON_PHASE_END, when the last sample has been placed: the generator is freed; the head leaves the queue for the free list and
the flag is cleared; DIGIT_EMITTED is sent when digit_reports is ON; for a line in TEST the check record is replaced and
TEST_BURST goes to port M; the line goes to TONE_OFF with tone_off × 8 samples (R117, R78, R118, R183). OFF_PHASE_END, when
the silence has run out: the line goes to IDLE; with an empty queue a line in DIALLING with complete-pending moves to
CONVERSATION; then the request conditions are checked (R119, R100). Before its end neither changes anything. -/
def Obligations.PhasesOfABurstEnd : Prop :=
  (∀ (n : LineId) (s u v w : State) (l : Line) (g : Fin 8) (head : DigitRecord) (rest : List DigitRecord),
      u = s.boundaryFirst → l = u.line n →
      v = { (u.updGen g fun x => { x with holder := none }).updLine n (fun x =>
            { x with
              ds := { queue := rest, inEmission := false }
              es := { x.es with emission := .toneOff, remaining := l.pt.snapshot.toneOff * 8, generator := none } }) with
          freeList := u.freeList ++ [head.number] } →
      w = (if l.pt.snapshot.digitReports then v.send .digitEmitted n head.seq head.symbol.code g.val else v) →
      (¬ (l.es.emission = .toneOn ∧ l.es.remaining = 0) → exec (.onPhaseEnd n) s = .next u)
        ∧ (l.es.emission = .toneOn → l.es.remaining = 0 → l.es.generator = some g → l.ds.queue = head :: rest →
            exec (.onPhaseEnd n) s
              = .next (if l.lat.service = .test then
                  { w with
                    check := some
                      { line := n, symbol := head.symbol, samples := l.pt.snapshot.toneOn * 8, peak := (u.gen g).peak
                        saturated := (u.gen g).saturated } }.updPort .m fun q =>
                    q.accept ⟨.testBurst, lineTarget n, l.lat.epoch, head.seq, octet head.symbol.code,
                      octet (min 255 (u.gen g).saturated), u.timestamp⟩
                else w)))
    ∧ (∀ (n : LineId) (s u v : State) (l : Line), u = s.boundaryFirst → l = u.line n →
      v = (u.updLine n fun x => { x with es := { x.es with emission := .idle } }) →
      (¬ (l.es.emission = .toneOff ∧ l.es.remaining = 0) → exec (.offPhaseEnd n) s = .next u)
        ∧ (l.es.emission = .toneOff → l.es.remaining = 0 →
            (l.ds.queue = [] → l.npw.stage = .dialling → l.npw.completePending = true →
                exec (.offPhaseEnd n) s
                  = .next ((v.updLine n fun x =>
                    { x with
                      npw := { x.npw with
                        stage := .conversation, held := false, completePending := false, timer := none } }).reviewRequest
                    n))
              ∧ (¬ (l.ds.queue = [] ∧ l.npw.stage = .dialling ∧ l.npw.completePending = true) →
                exec (.offPhaseEnd n) s = .next (v.reviewRequest n))))

/-! ## The highways -/

/-- FRAME_BOUNDARY ends the frame in progress, once the work still due in it is done (`v`, in the rows and the order that the
statement names, the model's choice of log 2): every downstream sample stands in its L-highway slot; every upstream slot
carries 0, the voice sample or the burst sample by the rows of R123. It opens the next frame: the counter rises modulo 8 and the timestamp with the counter's return to 0, except at the first frame sync
after power-on reset; lines that joined wait behind those that waited; the arbiter is due. TICK_BOUNDARY is this same step
when the frame opened is the first of a tick, and nothing otherwise. At a frame's end the samples of each phase run down by
one and each held generator goes to its next sample. At a tick the old tick's scan frame, if still outstanding, is missed, a
new one is requested, playback feeds its level, the end-of-dialling timer of every line counts or stops, the auto-proceed
timer counts, the fields of the sampler are chosen for a line not in TEST, and then the lines in TEST are sampled (R6, R13,
R101, R110, R112, R115, R116, R119, R123, R128, R129, R131, R132, R181). The model's own: TICK_BOUNDARY as this same step (log
4), the timers, playback and TEST samples at the sync (log 5), the sampler's fields (log 7), the line order (log 8), the place
of the samples at the frame's end (log 9), the joining list (log 27). -/
def Obligations.FrameSyncPlacesSamplesAndCounts : Prop :=
  ∀ (down up : Vector Sample 32) (s v : State), v = s.finishFrame →
    ∃ t : State, exec (.frameBoundary down up) s = .next t
      ∧ (s.frameOpen = true → t.lDown = down
          ∧ ∀ (n : LineId) (l : Line), l = v.line n →
            (l.lat.service = .outOfService ∨ l.lat.service = .test → t.sUp[n] = 0)
              ∧ (l.lat.service = .inService →
                (l.npw.stage = .idle → t.sUp[n] = up[n])
                  ∧ (l.npw.stage ≠ .idle →
                    (∀ g : Fin 8, l.es.emission = .toneOn → l.es.generator = some g →
                        t.sUp[n] = (v.gen g).sample)
                      ∧ (l.es.emission = .toneOff → t.sUp[n] = 0)
                      ∧ (l.es.emission = .idle ∨ l.es.emission = .waitingGen →
                        (l.npw.stage = .conversation → t.sUp[n] = up[n])
                          ∧ (l.npw.stage ≠ .conversation → t.sUp[n] = 0)))))
      ∧ (s.frameOpen = false → t.sUp = s.sUp ∧ t.lDown = s.lDown ∧ t.frameCounter = s.frameCounter
          ∧ t.timestamp = s.timestamp)
      ∧ (s.frameOpen = true → t.frameCounter = s.frameCounter + 1
          ∧ t.timestamp = if s.frameCounter = 7 then s.timestamp + 1 else s.timestamp)
      ∧ (s.frameOpen = true →
          (∀ n : LineId,
            (t.line n).es.remaining
              = if (v.line n).es.emission = .toneOn ∨ (v.line n).es.emission = .toneOff then
                  (v.line n).es.remaining - 1
                else (v.line n).es.remaining)
            ∧ (∀ g : Fin 8, (v.gen g).holder = none → t.gen g = v.gen g)
            ∧ ∀ (g : Fin 8) (n : LineId), (v.gen g).holder = some n →
                t.gen g = (if (v.line n).lat.service = .test then (v.gen g).measure else v.gen g).advance)
      ∧ t.frameOpen = true
      ∧ t.waiting = v.waiting ++ v.joining ∧ t.joining = [] ∧ t.arbiterDue = true
      ∧ (s.frameOpen = false ∨ s.frameCounter = 7 →
          exec (.tickBoundary down up) s = .next t ∧ t.scanRequested = true
            ∧ ∀ (n : LineId) (l : Line) (e : Profile), l = v.line n → l.lat.service ≠ .test →
                e = (if l.npw.stage = .idle then v.profiles[l.pt.profileIndex] else l.pt.snapshot) →
                (t.line n).npw.timer
                    = (if l.npw.stage = .dialling ∧ l.npw.digitSeen = true ∧ l.ds.queue = [] ∧ l.pd.inDigit = false
                        ∧ l.es.emission ≠ .toneOn ∧ l.es.emission ≠ .toneOff ∧ l.npw.held = false then
                        some (l.npw.timer.getD 0 + 1)
                      else none)
                  ∧ (t.line n).es.autoTimer = l.es.autoTimer.map (· + 1)
                  ∧ (t.line n).due = .scan ⟨e.makeThreshold, e.breakThreshold, e.settleCount⟩)
      ∧ (s.frameOpen = true → s.frameCounter ≠ 7 → exec (.tickBoundary down up) s = .next s)
      ∧ v = afterRows [.patternSegmentAdvance, .patternDone, .scanLoss]
          (allLines.foldl
            (fun a n =>
              (afterRows [.debouncedStateChange n, .seizure n, .makeConfirmed n, .digitComplete n, .release n] a).updLine n
                fun l => { l with due := if l.due = .limits then .nothing else l.due })
            (afterRows
              ([.generatorGrant] ++ (allLines.flatMap fun n => [.onPhaseEnd n, .offPhaseEnd n])
                ++ allLines.flatMap fun n => [.dialTimeout n, .autoProceedExpiry n])
              s))
      ∧ (∀ p r : State,
          p = { v with
            sUp := t.sUp, lDown := t.lDown, gens := t.gens
            lines := Vector.ofFn fun n =>
              { v.line n with
                es := { (v.line n).es with
                  remaining :=
                    if s.frameOpen = true ∧ ((v.line n).es.emission = .toneOn ∨ (v.line n).es.emission = .toneOff) then
                      (v.line n).es.remaining - 1
                    else (v.line n).es.remaining } } } →
          r = { (if s.frameOpen = false ∨ s.frameCounter = 7 then p.closeTick else p) with
            frameCounter := t.frameCounter, timestamp := t.timestamp, frameOpen := true
            waiting := v.waiting ++ v.joining, joining := [], arbiterDue := true } →
          (s.frameOpen = true → s.frameCounter ≠ 7 → t = r)
            ∧ (s.frameOpen = false ∨ s.frameCounter = 7 →
              t = allLines.foldl (fun a n => a.sampleTestLine n)
                { r.feedPattern with lines := Vector.ofFn r.feedPattern.tickLine, scanRequested := true }))
      ∧ ∀ (a : State) (n : LineId) (l : Line) (e : Profile), l = a.line n →
          e = (if l.npw.stage = .idle then a.profiles[l.pt.profileIndex] else l.pt.snapshot) →
          a.tickLine n
            = { l with
                npw := { l.npw with
                  timer :=
                    if l.npw.stage = .dialling ∧ l.npw.digitSeen = true ∧ l.ds.queue = [] ∧ l.pd.inDigit = false
                        ∧ l.es.emission ≠ .toneOn ∧ l.es.emission ≠ .toneOff ∧ l.npw.held = false then
                      some (l.npw.timer.getD 0 + 1)
                    else none }
                es := { l.es with autoTimer := l.es.autoTimer.map (· + 1) }
                due := if l.lat.service = .test then l.due else .scan ⟨e.makeThreshold, e.breakThreshold, e.settleCount⟩ }

/-- The sample of a burst is floor((S[i_low] × level_low + S[i_high] × level_high + 16384) / 32768), kept within
−32768..32767, with the indices floor(phase / 256); it is saturated when the value lies outside; and the two phases then move by their increments modulo 65536, with the other fields kept (R138). Each entry of the sine table is 32767 times
the sine rounded to the nearest integer, from which it differs by less than one half, and the table has the symmetries, the
range and the quarter points of R137. MU's burst measure takes a sample in: its peak becomes the larger of itself and the
sample's magnitude, and its saturated count rises by 1, up to 65535, when the sample is saturated (R183). -/
def Obligations.BurstSampleIsTheScaledSum : Prop :=
  (∀ i : Nat, i ≤ 255 → |(sine i : ℝ) - 32767 * Real.sin (2 * Real.pi * i / 256)| < 1 / 2)
    ∧ (∀ i : Nat, i ≤ 128 → sine (128 - i) = sine i)
    ∧ (∀ i : Nat, 1 ≤ i → i ≤ 255 → sine (256 - i) = -sine i)
    ∧ (∀ i : Nat, i ≤ 255 → -32767 ≤ sine i ∧ sine i ≤ 32767)
    ∧ (sine 0 = 0 ∧ sine 32 = 23170 ∧ sine 64 = 32767 ∧ sine 96 = 23170 ∧ sine 128 = 0 ∧ sine 160 = -23170
      ∧ sine 192 = -32767 ∧ sine 224 = -23170)
    ∧ ∀ (g : Generator) (y : Int),
    y = (sine (g.phaseLow.toNat / 256) * g.levelLow + sine (g.phaseHigh.toNat / 256) * g.levelHigh + 16384) / 32768 →
    (-32768 ≤ y → y ≤ 32767 →
        g.sample = BitVec.ofInt 16 y ∧ g.isSaturated = false ∧ g.measure = { g with peak := max g.peak y.natAbs })
      ∧ (32767 < y →
        g.sample = 0x7FFF ∧ g.isSaturated = true
          ∧ g.measure = { g with peak := max g.peak 32767, saturated := min 65535 (g.saturated + 1) })
      ∧ (y < -32768 →
        g.sample = 0x8000 ∧ g.isSaturated = true
          ∧ g.measure = { g with peak := max g.peak 32768, saturated := min 65535 (g.saturated + 1) })
      ∧ g.advance = { g with phaseLow := g.advance.phaseLow, phaseHigh := g.advance.phaseHigh }
      ∧ g.advance.phaseLow.toNat = (g.phaseLow.toNat + g.incLow.toNat) % 65536
      ∧ g.advance.phaseHigh.toNat = (g.phaseHigh.toNat + g.incHigh.toNat) % 65536

/-! ## Invariants -/

/-- The invariants below hold right after power-on reset. -/
def Obligations.ResetStateMeetsTheInvariants : Prop :=
  ProfilesValid State.reset ∧ EventQueuesBounded State.reset ∧ StoreConserved State.reset ∧ CallsConsistent State.reset
    ∧ PoolConsistent State.reset ∧ RequestBuffersSound State.reset ∧ TestLinesSound State.reset

/-- Every step keeps every profile entry and snapshot valid, and every period estimate in 960..2560 (R46, R58, R63). -/
def Obligations.StepsKeepProfilesValid : Prop :=
  ∀ s t : State, ProfilesValid s → step s = .next t → ProfilesValid t

/-- Every step keeps each event queue within 64 records and each lost count within 255 (R165). -/
def Obligations.StepsKeepEventQueuesBounded : Prop :=
  ∀ s t : State, EventQueuesBounded s → step s = .next t → EventQueuesBounded t

/-- Every step keeps each of the 256 digit records on the free list or on exactly one line's queue, once (R71). -/
def Obligations.StepsConserveTheDigitStore : Prop :=
  ∀ s t : State, StoreConserved s → step s = .next t → StoreConserved t

/-- Every step keeps the call stage of every line in accord with its decoder, flags, queue, gate and emission (R87). -/
def Obligations.StepsKeepCallsConsistent : Prop :=
  ∀ s t : State, CallsConsistent s → step s = .next t → CallsConsistent t

/-- Every step keeps the generator pool and the waiting list in accord with the lines (R77, R112, R114). -/
def Obligations.StepsKeepThePoolConsistent : Prop :=
  ∀ s t : State, PoolConsistent s → step s = .next t → PoolConsistent t

/-- Every step keeps the request buffers as R158 and R159 leave them; and then it keeps the test levels in accord with the
service states, and playback within the loaded pattern and on a line in TEST (R178 to R182). -/
def Obligations.StepsKeepTestLinesSound : Prop :=
  ∀ s t : State, RequestBuffersSound s → step s = .next t →
    RequestBuffersSound t ∧ (TestLinesSound s → TestLinesSound t)
end

