-- ==== Sys2Proof/Laws/State.lean ====
section
/-! SUPPORT. One lemma for each field and each update of one component: what the update leaves and what it writes. -/

namespace Sys2Proof.Machine

/-! ## One line replaced -/

@[simp] theorem line_updLine_self (s : State) (n : LineId) (f : Line → Line) :
    (s.updLine n f).line n = f (s.line n) := by
  simp [State.line, State.updLine]

theorem line_updLine_of_ne (s : State) {n m : LineId} (f : Line → Line) (h : m ≠ n) :
    (s.updLine n f).line m = s.line m := by
  have h' : (n : Nat) ≠ (m : Nat) := fun e => h (Fin.ext e.symm)
  simp [State.line, State.updLine, h']

theorem line_updLine (s : State) (n m : LineId) (f : Line → Line) :
    (s.updLine n f).line m = if m = n then f (s.line n) else s.line m := by
  split
  · next h => subst h; simp
  · next h => exact line_updLine_of_ne s f h

@[simp] theorem gen_updLine (s : State) (n : LineId) (f : Line → Line) (g : Fin 8) : (s.updLine n f).gen g = s.gen g := rfl

@[simp] theorem port_updLine (s : State) (n : LineId) (f : Line → Line) (p : PortId) :
    (s.updLine n f).port p = s.port p := by cases p <;> rfl

@[simp] theorem missCount_updLine (s : State) (n : LineId) (f : Line → Line) : (s.updLine n f).missCount = s.missCount := rfl

@[simp] theorem scanLoss_updLine (s : State) (n : LineId) (f : Line → Line) : (s.updLine n f).scanLoss = s.scanLoss := rfl

@[simp] theorem scanRequested_updLine (s : State) (n : LineId) (f : Line → Line) : (s.updLine n f).scanRequested = s.scanRequested := rfl

@[simp] theorem profiles_updLine (s : State) (n : LineId) (f : Line → Line) : (s.updLine n f).profiles = s.profiles := rfl

@[simp] theorem freeList_updLine (s : State) (n : LineId) (f : Line → Line) : (s.updLine n f).freeList = s.freeList := rfl

@[simp] theorem plan_updLine (s : State) (n : LineId) (f : Line → Line) : (s.updLine n f).plan = s.plan := rfl

@[simp] theorem gens_updLine (s : State) (n : LineId) (f : Line → Line) : (s.updLine n f).gens = s.gens := rfl

@[simp] theorem waiting_updLine (s : State) (n : LineId) (f : Line → Line) : (s.updLine n f).waiting = s.waiting := rfl

@[simp] theorem joining_updLine (s : State) (n : LineId) (f : Line → Line) : (s.updLine n f).joining = s.joining := rfl

@[simp] theorem arbiterDue_updLine (s : State) (n : LineId) (f : Line → Line) : (s.updLine n f).arbiterDue = s.arbiterDue := rfl

@[simp] theorem frameCounter_updLine (s : State) (n : LineId) (f : Line → Line) : (s.updLine n f).frameCounter = s.frameCounter := rfl

@[simp] theorem timestamp_updLine (s : State) (n : LineId) (f : Line → Line) : (s.updLine n f).timestamp = s.timestamp := rfl

@[simp] theorem frameOpen_updLine (s : State) (n : LineId) (f : Line → Line) : (s.updLine n f).frameOpen = s.frameOpen := rfl

@[simp] theorem sUp_updLine (s : State) (n : LineId) (f : Line → Line) : (s.updLine n f).sUp = s.sUp := rfl

@[simp] theorem lDown_updLine (s : State) (n : LineId) (f : Line → Line) : (s.updLine n f).lDown = s.lDown := rfl

@[simp] theorem pattern_updLine (s : State) (n : LineId) (f : Line → Line) : (s.updLine n f).pattern = s.pattern := rfl

@[simp] theorem play_updLine (s : State) (n : LineId) (f : Line → Line) : (s.updLine n f).play = s.play := rfl

@[simp] theorem check_updLine (s : State) (n : LineId) (f : Line → Line) : (s.updLine n f).check = s.check := rfl

@[simp] theorem watched_updLine (s : State) (n : LineId) (f : Line → Line) : (s.updLine n f).watched = s.watched := rfl

@[simp] theorem ring_updLine (s : State) (n : LineId) (f : Line → Line) : (s.updLine n f).ring = s.ring := rfl

@[simp] theorem portA_updLine (s : State) (n : LineId) (f : Line → Line) : (s.updLine n f).portA = s.portA := rfl

@[simp] theorem portB_updLine (s : State) (n : LineId) (f : Line → Line) : (s.updLine n f).portB = s.portB := rfl

@[simp] theorem portM_updLine (s : State) (n : LineId) (f : Line → Line) : (s.updLine n f).portM = s.portM := rfl

@[simp] theorem pending_updLine (s : State) (n : LineId) (f : Line → Line) : (s.updLine n f).pending = s.pending := rfl

/-! ## One block's part of a line replaced -/

@[simp] theorem updLs_eq (s : State) (n : LineId) (f : LsLine → LsLine) :
    s.updLs n f = s.updLine n fun l => { l with ls := f l.ls } := rfl

@[simp] theorem updPd_eq (s : State) (n : LineId) (f : PdLine → PdLine) :
    s.updPd n f = s.updLine n fun l => { l with pd := f l.pd } := rfl

@[simp] theorem updPt_eq (s : State) (n : LineId) (f : PtLine → PtLine) :
    s.updPt n f = s.updLine n fun l => { l with pt := f l.pt } := rfl

@[simp] theorem updDs_eq (s : State) (n : LineId) (f : DsLine → DsLine) :
    s.updDs n f = s.updLine n fun l => { l with ds := f l.ds } := rfl

@[simp] theorem updNpw_eq (s : State) (n : LineId) (f : NpwLine → NpwLine) :
    s.updNpw n f = s.updLine n fun l => { l with npw := f l.npw } := rfl

@[simp] theorem updEs_eq (s : State) (n : LineId) (f : EsLine → EsLine) :
    s.updEs n f = s.updLine n fun l => { l with es := f l.es } := rfl

@[simp] theorem updLat_eq (s : State) (n : LineId) (f : LatLine → LatLine) :
    s.updLat n f = s.updLine n fun l => { l with lat := f l.lat } := rfl

@[simp] theorem updMu_eq (s : State) (n : LineId) (f : MuLine → MuLine) :
    s.updMu n f = s.updLine n fun l => { l with mu := f l.mu } := rfl

@[simp] theorem setDue_eq (s : State) (n : LineId) (d : Due) : s.setDue n d = s.updLine n fun l => { l with due := d } := rfl

/-! ## One generator replaced -/

@[simp] theorem gen_updGen_self (s : State) (g : Fin 8) (f : Generator → Generator) :
    (s.updGen g f).gen g = f (s.gen g) := by
  simp [State.gen, State.updGen]

theorem gen_updGen (s : State) (g k : Fin 8) (f : Generator → Generator) :
    (s.updGen g f).gen k = if k = g then f (s.gen g) else s.gen k := by
  split
  · next h => subst h; simp
  · next h =>
    have h' : (g : Nat) ≠ (k : Nat) := fun e => h (Fin.ext e.symm)
    simp [State.gen, State.updGen, h']

@[simp] theorem line_updGen (s : State) (g : Fin 8) (f : Generator → Generator) (n : LineId) :
    (s.updGen g f).line n = s.line n := rfl

@[simp] theorem lines_updGen (s : State) (g : Fin 8) (f : Generator → Generator) : (s.updGen g f).lines = s.lines := rfl

@[simp] theorem port_updGen (s : State) (g : Fin 8) (f : Generator → Generator) (p : PortId) :
    (s.updGen g f).port p = s.port p := by cases p <;> rfl

@[simp] theorem missCount_updGen (s : State) (g : Fin 8) (f : Generator → Generator) : (s.updGen g f).missCount = s.missCount := rfl

@[simp] theorem scanLoss_updGen (s : State) (g : Fin 8) (f : Generator → Generator) : (s.updGen g f).scanLoss = s.scanLoss := rfl

@[simp] theorem scanRequested_updGen (s : State) (g : Fin 8) (f : Generator → Generator) : (s.updGen g f).scanRequested = s.scanRequested := rfl

@[simp] theorem profiles_updGen (s : State) (g : Fin 8) (f : Generator → Generator) : (s.updGen g f).profiles = s.profiles := rfl

@[simp] theorem freeList_updGen (s : State) (g : Fin 8) (f : Generator → Generator) : (s.updGen g f).freeList = s.freeList := rfl

@[simp] theorem plan_updGen (s : State) (g : Fin 8) (f : Generator → Generator) : (s.updGen g f).plan = s.plan := rfl

@[simp] theorem waiting_updGen (s : State) (g : Fin 8) (f : Generator → Generator) : (s.updGen g f).waiting = s.waiting := rfl

@[simp] theorem joining_updGen (s : State) (g : Fin 8) (f : Generator → Generator) : (s.updGen g f).joining = s.joining := rfl

@[simp] theorem arbiterDue_updGen (s : State) (g : Fin 8) (f : Generator → Generator) : (s.updGen g f).arbiterDue = s.arbiterDue := rfl

@[simp] theorem frameCounter_updGen (s : State) (g : Fin 8) (f : Generator → Generator) : (s.updGen g f).frameCounter = s.frameCounter := rfl

@[simp] theorem timestamp_updGen (s : State) (g : Fin 8) (f : Generator → Generator) : (s.updGen g f).timestamp = s.timestamp := rfl

@[simp] theorem frameOpen_updGen (s : State) (g : Fin 8) (f : Generator → Generator) : (s.updGen g f).frameOpen = s.frameOpen := rfl

@[simp] theorem sUp_updGen (s : State) (g : Fin 8) (f : Generator → Generator) : (s.updGen g f).sUp = s.sUp := rfl

@[simp] theorem lDown_updGen (s : State) (g : Fin 8) (f : Generator → Generator) : (s.updGen g f).lDown = s.lDown := rfl

@[simp] theorem pattern_updGen (s : State) (g : Fin 8) (f : Generator → Generator) : (s.updGen g f).pattern = s.pattern := rfl

@[simp] theorem play_updGen (s : State) (g : Fin 8) (f : Generator → Generator) : (s.updGen g f).play = s.play := rfl

@[simp] theorem check_updGen (s : State) (g : Fin 8) (f : Generator → Generator) : (s.updGen g f).check = s.check := rfl

@[simp] theorem watched_updGen (s : State) (g : Fin 8) (f : Generator → Generator) : (s.updGen g f).watched = s.watched := rfl

@[simp] theorem ring_updGen (s : State) (g : Fin 8) (f : Generator → Generator) : (s.updGen g f).ring = s.ring := rfl

@[simp] theorem portA_updGen (s : State) (g : Fin 8) (f : Generator → Generator) : (s.updGen g f).portA = s.portA := rfl

@[simp] theorem portB_updGen (s : State) (g : Fin 8) (f : Generator → Generator) : (s.updGen g f).portB = s.portB := rfl

@[simp] theorem portM_updGen (s : State) (g : Fin 8) (f : Generator → Generator) : (s.updGen g f).portM = s.portM := rfl

@[simp] theorem pending_updGen (s : State) (g : Fin 8) (f : Generator → Generator) : (s.updGen g f).pending = s.pending := rfl

/-! ## One port replaced -/

@[simp] theorem port_updPort_self (s : State) (p : PortId) (f : Port → Port) : (s.updPort p f).port p = f (s.port p) := by
  cases p <;> rfl

theorem port_updPort (s : State) (p q : PortId) (f : Port → Port) :
    (s.updPort p f).port q = if q = p then f (s.port p) else s.port q := by
  cases p <;> cases q <;> rfl

@[simp] theorem line_updPort (s : State) (p : PortId) (f : Port → Port) (n : LineId) :
    (s.updPort p f).line n = s.line n := by cases p <;> rfl

@[simp] theorem gen_updPort (s : State) (p : PortId) (f : Port → Port) (g : Fin 8) :
    (s.updPort p f).gen g = s.gen g := by cases p <;> rfl

@[simp] theorem lines_updPort (s : State) (p : PortId) (f : Port → Port) : (s.updPort p f).lines = s.lines := by
  cases p <;> rfl

@[simp] theorem missCount_updPort (s : State) (p : PortId) (f : Port → Port) : (s.updPort p f).missCount = s.missCount := by
  cases p <;> rfl

@[simp] theorem scanLoss_updPort (s : State) (p : PortId) (f : Port → Port) : (s.updPort p f).scanLoss = s.scanLoss := by
  cases p <;> rfl

@[simp] theorem scanRequested_updPort (s : State) (p : PortId) (f : Port → Port) : (s.updPort p f).scanRequested = s.scanRequested := by
  cases p <;> rfl

@[simp] theorem profiles_updPort (s : State) (p : PortId) (f : Port → Port) : (s.updPort p f).profiles = s.profiles := by
  cases p <;> rfl

@[simp] theorem freeList_updPort (s : State) (p : PortId) (f : Port → Port) : (s.updPort p f).freeList = s.freeList := by
  cases p <;> rfl

@[simp] theorem plan_updPort (s : State) (p : PortId) (f : Port → Port) : (s.updPort p f).plan = s.plan := by
  cases p <;> rfl

@[simp] theorem gens_updPort (s : State) (p : PortId) (f : Port → Port) : (s.updPort p f).gens = s.gens := by
  cases p <;> rfl

@[simp] theorem waiting_updPort (s : State) (p : PortId) (f : Port → Port) : (s.updPort p f).waiting = s.waiting := by
  cases p <;> rfl

@[simp] theorem joining_updPort (s : State) (p : PortId) (f : Port → Port) : (s.updPort p f).joining = s.joining := by
  cases p <;> rfl

@[simp] theorem arbiterDue_updPort (s : State) (p : PortId) (f : Port → Port) : (s.updPort p f).arbiterDue = s.arbiterDue := by
  cases p <;> rfl

@[simp] theorem frameCounter_updPort (s : State) (p : PortId) (f : Port → Port) : (s.updPort p f).frameCounter = s.frameCounter := by
  cases p <;> rfl

@[simp] theorem timestamp_updPort (s : State) (p : PortId) (f : Port → Port) : (s.updPort p f).timestamp = s.timestamp := by
  cases p <;> rfl

@[simp] theorem frameOpen_updPort (s : State) (p : PortId) (f : Port → Port) : (s.updPort p f).frameOpen = s.frameOpen := by
  cases p <;> rfl

@[simp] theorem sUp_updPort (s : State) (p : PortId) (f : Port → Port) : (s.updPort p f).sUp = s.sUp := by
  cases p <;> rfl

@[simp] theorem lDown_updPort (s : State) (p : PortId) (f : Port → Port) : (s.updPort p f).lDown = s.lDown := by
  cases p <;> rfl

@[simp] theorem pattern_updPort (s : State) (p : PortId) (f : Port → Port) : (s.updPort p f).pattern = s.pattern := by
  cases p <;> rfl

@[simp] theorem play_updPort (s : State) (p : PortId) (f : Port → Port) : (s.updPort p f).play = s.play := by
  cases p <;> rfl

@[simp] theorem check_updPort (s : State) (p : PortId) (f : Port → Port) : (s.updPort p f).check = s.check := by
  cases p <;> rfl

@[simp] theorem watched_updPort (s : State) (p : PortId) (f : Port → Port) : (s.updPort p f).watched = s.watched := by
  cases p <;> rfl

@[simp] theorem ring_updPort (s : State) (p : PortId) (f : Port → Port) : (s.updPort p f).ring = s.ring := by
  cases p <;> rfl

@[simp] theorem pending_updPort (s : State) (p : PortId) (f : Port → Port) : (s.updPort p f).pending = s.pending := by
  cases p <;> rfl

/-! ## Updates that follow one another -/

theorem updLine_updLine (s : State) (n : LineId) (f g : Line → Line) :
    (s.updLine n f).updLine n g = s.updLine n fun l => g (f l) := by
  simp [State.updLine]

theorem updLine_updPort (s : State) (n : LineId) (p : PortId) (f : Line → Line) (g : Port → Port) :
    (s.updPort p g).updLine n f = (s.updLine n f).updPort p g := by cases p <;> rfl

theorem updLine_updGen (s : State) (n : LineId) (k : Fin 8) (f : Line → Line) (g : Generator → Generator) :
    (s.updGen k g).updLine n f = (s.updLine n f).updGen k g := rfl

theorem updPort_updPort (s : State) (p : PortId) (f g : Port → Port) :
    (s.updPort p f).updPort p g = s.updPort p fun q => g (f q) := by cases p <;> rfl

end Sys2Proof.Machine
end

