-- ==== Sys2Proof/Laws/Ops.lean ====
section
/-! SUPPORT. One lemma for each shared operation, which says what it can do; proofs cite these in place of unfolding the operation. -/

namespace Sys2Proof.Machine

/-! ## Event queues and routing -/

/-- A port with room stores the record at the tail; a full one counts it (R165). -/
theorem accept_spec (q : Port) (e : Event) :
    (q.queue.length < 64 ∧ q.accept e = { q with queue := q.queue ++ [e] })
      ∨ (64 ≤ q.queue.length ∧ q.accept e = { q with lost := min 255 (q.lost + 1) }) := by
  unfold Port.accept
  by_cases h : q.queue.length < Config.eventQueueCapacity
  · exact .inl ⟨h, by rw [if_pos h]⟩
  · exact .inr ⟨Nat.le_of_not_lt h, by rw [if_neg h]; rfl⟩

/-- A delivery asserts the attention output, stored or lost (R168). -/
theorem accept_attention (q : Port) (e : Event) : (q.accept e).attention = true := by
  unfold Port.accept Port.attention
  split <;> simp [Config.octetMax]

/-- A delivery keeps the bounds of R165. -/
theorem accept_bounded (q : Port) (e : Event) (h : q.queue.length ≤ 64 ∧ q.lost ≤ 255) :
    (q.accept e).queue.length ≤ 64 ∧ (q.accept e).lost ≤ 255 := by
  rcases accept_spec q e with ⟨hl, he⟩ | ⟨_, he⟩
  · rw [he]
    refine ⟨?_, h.2⟩
    simp only [List.length_append, List.length_singleton]
    omega
  · rw [he]
    exact ⟨h.1, Nat.min_le_left _ _⟩

theorem deliver_eq (s : State) (p : PortId) (e : Event) : s.deliver p e = s.updPort p fun q => q.accept e := rfl

/-- The route of a record, case by case (R144). -/
theorem route_spec (s : State) (n : LineId) :
    s.route n = [.m]
      ∨ ((s.line n).lat.service ≠ .test ∧ ∃ p, (s.line n).lat.owner.port = some p
          ∧ s.route n = if s.watched = some n then [p, .m] else [p]) := by
  unfold State.route
  cases hs : (s.line n).lat.service <;> cases ho : (s.line n).lat.owner <;> simp [Owner.port]

/-- No port receives a record twice (R144). -/
theorem route_nodup (s : State) (n : LineId) : (s.route n).Nodup := by
  unfold State.route
  cases (s.line n).lat.service <;> cases (s.line n).lat.owner <;> simp [Owner.port] <;> split <;> simp

theorem foldl_deliver_port (ps : List PortId) (e : Event) (s : State) (p : PortId) (h : ps.Nodup) :
    (ps.foldl (fun t q => t.deliver q e) s).port p = if p ∈ ps then (s.port p).accept e else s.port p := by
  induction ps generalizing s with
  | nil => simp
  | cons q rest ih =>
    rw [List.nodup_cons] at h
    rw [List.foldl_cons, ih _ h.2, deliver_eq, port_updPort]
    by_cases hq : p = q
    · subst hq
      simp [h.1]
    · simp [hq]

/-- A record sent for a line reaches the ports of its route and no other (R144). -/
theorem port_send (s : State) (k : EventKind) (n : LineId) (q : BitVec 8) (a b : Nat) (p : PortId) :
    (s.send k n q a b).port p
      = if p ∈ s.route n then (s.port p).accept (s.event k n q a b) else s.port p :=
  foldl_deliver_port _ _ _ _ (route_nodup s n)

theorem foldl_deliver_eq (ps : List PortId) (e : Event) (s : State) :
    ∃ a b m, ps.foldl (fun t q => t.deliver q e) s = { s with portA := a, portB := b, portM := m } := by
  induction ps generalizing s with
  | nil => exact ⟨s.portA, s.portB, s.portM, rfl⟩
  | cons q rest ih =>
    obtain ⟨a, b, m, h⟩ := ih (s.deliver q e)
    refine ⟨a, b, m, ?_⟩
    rw [List.foldl_cons, h]
    cases q <;> rfl

/-- Sending a record changes nothing but the ports. -/
theorem send_eq (s : State) (k : EventKind) (n : LineId) (q : BitVec 8) (a b : Nat) :
    ∃ pa pb pm, s.send k n q a b = { s with portA := pa, portB := pb, portM := pm } :=
  foldl_deliver_eq _ _ _

theorem send_frame (s : State) (k : EventKind) (n : LineId) (q : BitVec 8) (a b : Nat) :
    { s.send k n q a b with portA := s.portA, portB := s.portB, portM := s.portM } = s := by
  obtain ⟨x, y, z, h⟩ := send_eq s k n q a b
  rw [h]

@[simp] theorem lines_send (s : State) (k : EventKind) (n : LineId) (q : BitVec 8) (a b : Nat) :
    (s.send k n q a b).lines = s.lines := by
  obtain ⟨x, y, z, h⟩ := send_eq s k n q a b; rw [h]

@[simp] theorem line_send (s : State) (k : EventKind) (n m : LineId) (q : BitVec 8) (a b : Nat) :
    (s.send k n q a b).line m = s.line m := by
  obtain ⟨x, y, z, h⟩ := send_eq s k n q a b; rw [h]; rfl

@[simp] theorem gen_send (s : State) (k : EventKind) (n : LineId) (q : BitVec 8) (a b : Nat) (g : Fin 8) :
    (s.send k n q a b).gen g = s.gen g := by
  obtain ⟨x, y, z, h⟩ := send_eq s k n q a b; rw [h]; rfl

@[simp] theorem missCount_send (s : State) (k : EventKind) (n : LineId) (q : BitVec 8) (a b : Nat) :
    (s.send k n q a b).missCount = s.missCount := by
  obtain ⟨x, y, z, h⟩ := send_eq s k n q a b; rw [h]

@[simp] theorem scanLoss_send (s : State) (k : EventKind) (n : LineId) (q : BitVec 8) (a b : Nat) :
    (s.send k n q a b).scanLoss = s.scanLoss := by
  obtain ⟨x, y, z, h⟩ := send_eq s k n q a b; rw [h]

@[simp] theorem scanRequested_send (s : State) (k : EventKind) (n : LineId) (q : BitVec 8) (a b : Nat) :
    (s.send k n q a b).scanRequested = s.scanRequested := by
  obtain ⟨x, y, z, h⟩ := send_eq s k n q a b; rw [h]

@[simp] theorem profiles_send (s : State) (k : EventKind) (n : LineId) (q : BitVec 8) (a b : Nat) :
    (s.send k n q a b).profiles = s.profiles := by
  obtain ⟨x, y, z, h⟩ := send_eq s k n q a b; rw [h]

@[simp] theorem freeList_send (s : State) (k : EventKind) (n : LineId) (q : BitVec 8) (a b : Nat) :
    (s.send k n q a b).freeList = s.freeList := by
  obtain ⟨x, y, z, h⟩ := send_eq s k n q a b; rw [h]

@[simp] theorem plan_send (s : State) (k : EventKind) (n : LineId) (q : BitVec 8) (a b : Nat) :
    (s.send k n q a b).plan = s.plan := by
  obtain ⟨x, y, z, h⟩ := send_eq s k n q a b; rw [h]

@[simp] theorem gens_send (s : State) (k : EventKind) (n : LineId) (q : BitVec 8) (a b : Nat) :
    (s.send k n q a b).gens = s.gens := by
  obtain ⟨x, y, z, h⟩ := send_eq s k n q a b; rw [h]

@[simp] theorem waiting_send (s : State) (k : EventKind) (n : LineId) (q : BitVec 8) (a b : Nat) :
    (s.send k n q a b).waiting = s.waiting := by
  obtain ⟨x, y, z, h⟩ := send_eq s k n q a b; rw [h]

@[simp] theorem joining_send (s : State) (k : EventKind) (n : LineId) (q : BitVec 8) (a b : Nat) :
    (s.send k n q a b).joining = s.joining := by
  obtain ⟨x, y, z, h⟩ := send_eq s k n q a b; rw [h]

@[simp] theorem arbiterDue_send (s : State) (k : EventKind) (n : LineId) (q : BitVec 8) (a b : Nat) :
    (s.send k n q a b).arbiterDue = s.arbiterDue := by
  obtain ⟨x, y, z, h⟩ := send_eq s k n q a b; rw [h]

@[simp] theorem frameCounter_send (s : State) (k : EventKind) (n : LineId) (q : BitVec 8) (a b : Nat) :
    (s.send k n q a b).frameCounter = s.frameCounter := by
  obtain ⟨x, y, z, h⟩ := send_eq s k n q a b; rw [h]

@[simp] theorem timestamp_send (s : State) (k : EventKind) (n : LineId) (q : BitVec 8) (a b : Nat) :
    (s.send k n q a b).timestamp = s.timestamp := by
  obtain ⟨x, y, z, h⟩ := send_eq s k n q a b; rw [h]

@[simp] theorem frameOpen_send (s : State) (k : EventKind) (n : LineId) (q : BitVec 8) (a b : Nat) :
    (s.send k n q a b).frameOpen = s.frameOpen := by
  obtain ⟨x, y, z, h⟩ := send_eq s k n q a b; rw [h]

@[simp] theorem sUp_send (s : State) (k : EventKind) (n : LineId) (q : BitVec 8) (a b : Nat) :
    (s.send k n q a b).sUp = s.sUp := by
  obtain ⟨x, y, z, h⟩ := send_eq s k n q a b; rw [h]

@[simp] theorem lDown_send (s : State) (k : EventKind) (n : LineId) (q : BitVec 8) (a b : Nat) :
    (s.send k n q a b).lDown = s.lDown := by
  obtain ⟨x, y, z, h⟩ := send_eq s k n q a b; rw [h]

@[simp] theorem pattern_send (s : State) (k : EventKind) (n : LineId) (q : BitVec 8) (a b : Nat) :
    (s.send k n q a b).pattern = s.pattern := by
  obtain ⟨x, y, z, h⟩ := send_eq s k n q a b; rw [h]

@[simp] theorem play_send (s : State) (k : EventKind) (n : LineId) (q : BitVec 8) (a b : Nat) :
    (s.send k n q a b).play = s.play := by
  obtain ⟨x, y, z, h⟩ := send_eq s k n q a b; rw [h]

@[simp] theorem check_send (s : State) (k : EventKind) (n : LineId) (q : BitVec 8) (a b : Nat) :
    (s.send k n q a b).check = s.check := by
  obtain ⟨x, y, z, h⟩ := send_eq s k n q a b; rw [h]

@[simp] theorem watched_send (s : State) (k : EventKind) (n : LineId) (q : BitVec 8) (a b : Nat) :
    (s.send k n q a b).watched = s.watched := by
  obtain ⟨x, y, z, h⟩ := send_eq s k n q a b; rw [h]

@[simp] theorem ring_send (s : State) (k : EventKind) (n : LineId) (q : BitVec 8) (a b : Nat) :
    (s.send k n q a b).ring = s.ring := by
  obtain ⟨x, y, z, h⟩ := send_eq s k n q a b; rw [h]

@[simp] theorem pending_send (s : State) (k : EventKind) (n : LineId) (q : BitVec 8) (a b : Nat) :
    (s.send k n q a b).pending = s.pending := by
  obtain ⟨x, y, z, h⟩ := send_eq s k n q a b; rw [h]

theorem foldl_deliver_updLine (ps : List PortId) (e : Event) (s : State) (n : LineId) (f : Line → Line) :
    ps.foldl (fun t q => t.deliver q e) (s.updLine n f) = (ps.foldl (fun t q => t.deliver q e) s).updLine n f := by
  induction ps generalizing s with
  | nil => rfl
  | cons q rest ih =>
    rw [List.foldl_cons, List.foldl_cons, ← ih]
    cases q <;> rfl

/-- A record does not depend on what changes in its line, as long as LAT's part stays. -/
theorem send_updLine (s : State) (k : EventKind) (n : LineId) (q : BitVec 8) (a b : Nat) (f : Line → Line)
    (h : (f (s.line n)).lat = (s.line n).lat) :
    (s.updLine n f).send k n q a b = (s.send k n q a b).updLine n f := by
  have hr : (s.updLine n f).route n = s.route n := by
    unfold State.route
    rw [line_updLine_self, h]
    rfl
  have he : (s.updLine n f).event k n q a b = s.event k n q a b := by simp [State.event, h]
  unfold State.send
  rw [hr, he, foldl_deliver_updLine]

/-! ## Watch and statistics -/

/-- An interval is stored for the watched line alone (R43, R184). -/
theorem watchEntry_spec (s : State) (n : LineId) (k : Level) (d : Nat) (v : Verdict) :
    s.watchEntry n k d v = s
      ∨ (s.watched = some n
          ∧ s.watchEntry n k d v = { s with ring := pushRing s.ring ⟨k, v, min 4095 d, s.timestamp⟩ }) := by
  unfold State.watchEntry
  by_cases h : s.watched = some n
  · exact .inr ⟨h, by rw [if_pos h]; rfl⟩
  · exact .inl (by rw [if_neg h])

/-- The ring never holds more than 16 entries (R184). -/
theorem pushRing_length (ring : List WatchEntry) (w : WatchEntry) (h : ring.length ≤ 16) :
    (pushRing ring w).length ≤ 16 := by
  unfold pushRing
  split
  · next hlt =>
    simp only [List.length_append, List.length_singleton]
    exact hlt
  · next hge =>
    have : ¬ ring.length < 16 := hge
    simp only [List.length_append, List.length_tail, List.length_singleton]
    omega

/-! ## The digit store -/

/-- The three outcomes of an offer (R74). -/
theorem offer_spec (s : State) (n : LineId) (o : Offer) :
    ((s.snapshot n).queueLimit ≤ (s.line n).ds.queue.length ∧ s.offer n o = (some .queueFull, s))
      ∨ ((s.line n).ds.queue.length < (s.snapshot n).queueLimit ∧ s.freeList = []
          ∧ s.offer n o = (some .storeFull, s))
      ∨ ∃ r rest, (s.line n).ds.queue.length < (s.snapshot n).queueLimit ∧ s.freeList = r :: rest
          ∧ s.offer n o
            = (none, { s.updDs n (fun d => { d with queue := d.queue ++ [o.record r] }) with freeList := rest }) := by
  unfold State.offer
  by_cases h : (s.snapshot n).queueLimit ≤ (s.line n).ds.queue.length
  · exact .inl ⟨h, by rw [if_pos h]⟩
  · rw [if_neg h]
    have h' := Nat.lt_of_not_le h
    cases hf : s.freeList with
    | nil => exact .inr (.inl ⟨h', rfl, rfl⟩)
    | cons r rest => exact .inr (.inr ⟨r, rest, h', rfl, rfl⟩)

/-- The record in emission and the others make up the queue (R77, R79). -/
theorem emitting_append_notEmitting (d : DsLine) : d.emitting ++ d.notEmitting = d.queue := by
  unfold DsLine.emitting DsLine.notEmitting
  cases d.inEmission
  · rfl
  · exact List.take_append_drop 1 d.queue

/-- PLAN_DISCARD's two parts are the queue, each record in one of them (R82, R99). -/
theorem splitAtHeld_perm (q : List DigitRecord) : ((splitAtHeld q).1 ++ (splitAtHeld q).2).Perm q := by
  unfold splitAtHeld
  split
  · simp only [List.takeWhile_append_dropWhile]
    exact List.Perm.refl q
  · have h := List.filter_append_perm (fun r : DigitRecord => r.mark != .unwalked) q
    have e : (fun r : DigitRecord => !(r.mark != .unwalked)) = fun r => r.mark == .unwalked := by
      funext r
      cases r.mark <;> rfl
    rw [e] at h
    exact h

/-! ## Requests and withdrawals -/

/-- What the check of the request conditions can do: nothing, a request, or a withdrawal (R112, R113). -/
theorem reviewRequest_spec (s : State) (n : LineId) :
    s.reviewRequest n = s
      ∨ ((s.line n).es.emission = .idle ∧ (s.line n).requests = true
          ∧ s.reviewRequest n
            = { s.updEs n (fun e => { e with emission := .waitingGen }) with joining := insertLine n s.joining })
      ∨ ((s.line n).es.emission = .waitingGen ∧ (s.line n).requests = false
          ∧ s.reviewRequest n = (s.leaveList n).updEs n fun e => { e with emission := .idle }) := by
  unfold State.reviewRequest
  cases he : (s.line n).es.emission <;> cases hr : (s.line n).requests <;> simp

/-- A line joins behind those of no higher number and before the first of a higher one; the others keep their order (R112). -/
theorem insertLine_splits (n : LineId) (l : List LineId) :
    ∃ ahead behind : List LineId, l = ahead ++ behind ∧ insertLine n l = ahead ++ n :: behind
      ∧ (∀ m ∈ ahead, m ≤ n) ∧ ∀ m : LineId, behind.head? = some m → n < m := by
  induction l with
  | nil => exact ⟨[], [], rfl, rfl, by simp, by simp⟩
  | cons m rest ih =>
    by_cases h : n < m
    · exact ⟨[], m :: rest, rfl, if_pos h, by simp, by simpa using h⟩
    · obtain ⟨a, b, whole, inserted, low, high⟩ := ih
      refine ⟨m :: a, b, by rw [whole]; rfl, by rw [insertLine, if_neg h, inserted]; rfl, ?_, high⟩
      intro x hx
      rcases List.mem_cons.1 hx with rfl | hx
      · exact not_lt.1 h
      · exact low x hx

theorem mem_insertLine (n m : LineId) (l : List LineId) : m ∈ insertLine n l ↔ m = n ∨ m ∈ l := by
  induction l with
  | nil => simp [insertLine]
  | cons k rest ih =>
    unfold insertLine
    split
    · simp
    · simp only [List.mem_cons, ih]
      tauto

/-- A line leaves the list, and every other keeps its place (R113). -/
theorem mem_leaveList (s : State) (n m : LineId) :
    m ∈ (s.leaveList n).waitingList ↔ m ∈ s.waitingList ∧ m ≠ n := by
  simp only [State.waitingList, State.leaveList, List.mem_append, List.mem_filter, bne_iff_ne]
  tauto

/-! ## The boundary -/

/-- When the arbiter has acted at the latest boundary, nothing comes before a step. -/
theorem boundaryFirst_of_not_due (s : State) (h : s.arbiterDue = false) : s.boundaryFirst = s := by
  simp [State.boundaryFirst, h]

/-- After the arbiter's turn it is not due again. -/
theorem boundaryFirst_idem (s : State) (h : s.boundaryFirst.arbiterDue = false) :
    s.boundaryFirst.boundaryFirst = s.boundaryFirst := boundaryFirst_of_not_due _ h

/-! ## Commands taken -/

/-- A command is taken whole: the reply and the state are those of its action, and only the issuing port's frame fields
change besides (R159). -/
theorem take_eq (act : Action) (p : PortId) (r : Request) (s : State) :
    take act p r s
      = (act p r s.boundaryFirst).2.updPort p fun q => q.taken r (act p r s.boundaryFirst).1 := rfl

theorem withLength_ok (r : Request) (k : Nat) (s : State) (x : Reply × State) (h : r.length = k) :
    withLength r k s x = x := if_pos h

theorem withLength_bad (r : Request) (k : Nat) (s : State) (x : Reply × State) (h : r.length ≠ k) :
    withLength r k s x = (⟨.length, []⟩, s) := if_neg h

theorem withLine_ok (r : Request) (k : Nat) (s : State) (x : LineId → Reply × State) (n : LineId)
    (h : r.length = k) (hn : lineOfOctet r.target = some n) : withLine r k s x = x n := by
  unfold withLine
  rw [withLength_ok _ _ _ _ h, hn]

theorem withLine_range (r : Request) (k : Nat) (s : State) (x : LineId → Reply × State)
    (h : r.length = k) (hn : lineOfOctet r.target = none) : withLine r k s x = (⟨.range, []⟩, s) := by
  unfold withLine
  rw [withLength_ok _ _ _ _ h, hn]
  rfl

/-- The octet of a line names the line. -/
theorem lineOfOctet_line (n : LineId) : lineOfOctet (octet n.val) = some n := by
  revert n
  decide

/-- Row 1 of R152, case by case. -/
theorem callPermission_spec (s : State) (n : LineId) (p : PortId) :
    s.callPermission n p = none
      ↔ (((s.line n).lat.service = .test ∧ p = .m)
          ∨ ((s.line n).lat.service ≠ .test ∧ p ≠ .m ∧ (s.line n).lat.owner.port = some p)) := by
  unfold State.callPermission State.ownedBy
  cases (s.line n).lat.service <;> cases (s.line n).lat.owner <;> cases p <;> simp [Owner.port]

/-- Row 2 of R152, case by case. -/
theorem servicePermission_spec (s : State) (n : LineId) (p : PortId) :
    s.servicePermission n p = none
      ↔ (p = .m ∨ ((s.line n).lat.service ≠ .test ∧ (s.line n).lat.owner.port = some p)) := by
  unfold State.servicePermission State.ownedBy
  cases (s.line n).lat.service <;> cases (s.line n).lat.owner <;> cases p <;> simp [Owner.port]

/-! ## Request buffers -/

/-- One more octet keeps the first 80 of the data octets counted (R159). -/
theorem push_keeps_data_counted (b : RequestBuffer) (o : Octet) (h : b.data.length = min 80 b.counted) :
    (b.push o).data.length = min 80 (b.push o).counted := by
  unfold RequestBuffer.push
  split
  · exact h
  · exact h
  · exact h
  · show (if b.data.length < 80 then b.data ++ [o] else b.data).length = min 80 (b.counted + 1)
    by_cases room : b.data.length < 80
    · rw [if_pos room, List.length_append, List.length_singleton]
      omega
    · rw [if_neg room]
      omega

/-- A request is complete exactly when its three leading octets stand in the buffer and L data octets have been counted
(R159). -/
theorem complete_eq_some (b : RequestBuffer) (r : Request) :
    b.complete = some r
      ↔ ∃ c t l, b.command = some c ∧ b.target = some t ∧ b.length = some l ∧ l.toNat ≤ b.counted
          ∧ r = ⟨c, t, l.toNat, b.data⟩ := by
  unfold RequestBuffer.complete
  cases b.command <;> cases b.target <;> cases b.length <;> simp [eq_comm]

/-! ## What a line reset leaves to the tick -/

/-- A line reset leaves the sampler's work of the tick, and only that (R11, R15, log 24). -/
theorem afterLineReset_spec (d : Due) :
    ((∃ params, d = .scan params) ∨ d = .change ∨ d = .nothing → d.afterLineReset = d)
      ∧ (d = .limits ∨ d = .release → d.afterLineReset = .nothing) := by
  cases d <;> simp [Due.afterLineReset]

end Sys2Proof.Machine
end

