-- ==== Sys2Proof/Laws/Frames.lean ====
section
/-! SUPPORT. What the operations on one line leave alone: every other line, and every part of the machine but the watch ring and the ports. -/

namespace Sys2Proof.Machine

/-- Two updates of a line that agree on its context are one. -/
theorem updLine_congr (s : State) (n : LineId) (f g : Line → Line) (h : f (s.line n) = g (s.line n)) :
    s.updLine n f = s.updLine n g := by
  unfold State.updLine
  unfold State.line at h
  rw [h]

@[simp] theorem line_watchEntry (s : State) (n m : LineId) (k : Level) (d : Nat) (v : Verdict) :
    (s.watchEntry m k d v).line n = s.line n := by
  unfold State.watchEntry
  split <;> rfl

theorem watchEntry_updLine (s : State) (n m : LineId) (f : Line → Line) (k : Level) (d : Nat) (v : Verdict) :
    (s.updLine n f).watchEntry m k d v = (s.watchEntry m k d v).updLine n f := by
  unfold State.watchEntry
  by_cases h : s.watched = some m
  · rw [if_pos h, if_pos (by simpa using h)]
    rfl
  · rw [if_neg h, if_neg (by simpa using h)]

/-- `t` differs from `s` in the context of line `n`, the watch ring and the ports at most. -/
def OnlyLine (n : LineId) (s t : State) : Prop :=
  t = { s with lines := t.lines, ring := t.ring, portA := t.portA, portB := t.portB, portM := t.portM }
    ∧ ∀ m, m ≠ n → t.line m = s.line m

theorem OnlyLine.refl (n : LineId) (s : State) : OnlyLine n s s := ⟨rfl, fun _ _ => rfl⟩

theorem OnlyLine.trans {n : LineId} {s t u : State} (h : OnlyLine n s t) (k : OnlyLine n t u) : OnlyLine n s u := by
  refine ⟨?_, fun m hm => (k.2 m hm).trans (h.2 m hm)⟩
  have h1 := h.1
  have k1 := k.1
  rw [h1] at k1
  exact k1

theorem OnlyLine.updLine (n : LineId) (s : State) (f : Line → Line) : OnlyLine n s (s.updLine n f) :=
  ⟨rfl, fun _ hm => line_updLine_of_ne s f hm⟩

theorem OnlyLine.send (n : LineId) (s : State) (k : EventKind) (q : BitVec 8) (a b : Nat) :
    OnlyLine n s (s.send k n q a b) := by
  refine ⟨?_, fun m _ => by simp⟩
  obtain ⟨x, y, z, h⟩ := send_eq s k n q a b
  rw [h]

theorem OnlyLine.watchEntry (n : LineId) (s : State) (k : Level) (d : Nat) (v : Verdict) :
    OnlyLine n s (s.watchEntry n k d v) := by
  refine ⟨?_, fun m _ => by simp⟩
  unfold State.watchEntry
  split <;> rfl

/-- The hand of the loop state works on its line alone (R17). -/
theorem OnlyLine.hand (n : LineId) (s : State) : OnlyLine n s (s.hand n) := by
  unfold State.hand
  dsimp only
  split
  · exact .updLine _ _ _
  · split <;> split
    all_goals try exact .updLine _ _ _
    all_goals try exact .trans (.updLine _ _ _) (.updLine _ _ _)
    · exact .trans (.trans (.trans (.updLine _ _ _) (.watchEntry _ _ _ _ _)) (.updLine _ _ _)) (.updLine _ _ _)
    · exact .trans (.trans (.updLine _ _ _) (.updLine _ _ _)) (.updLine _ _ _)
    · split
      · exact .trans (.trans (.updLine _ _ _) (.updLine _ _ _)) (.updLine _ _ _)
      · exact .trans (.updLine _ _ _) (.updLine _ _ _)
    · split
      · unfold State.glitchMake
        exact .trans (.trans (.trans (.trans (.updLine _ _ _) (.watchEntry _ _ _ _ _)) (.updLine _ _ _))
          (.updLine _ _ _)) (.updLine _ _ _)
      · exact .trans (.updLine _ _ _) (.updLine _ _ _)

theorem OnlyLine.settle (n : LineId) (s : State) (x : Loop) (c : Nat) : OnlyLine n s (s.settle n x c) := by
  unfold State.settle
  split
  · exact .trans (.updLine _ _ _) (.hand _ _)
  · dsimp only
    split
    · exact .trans (.updLine _ _ _) (.updLine _ _ _)
    · exact .trans (.updLine _ _ _) (.hand _ _)

theorem OnlyLine.compareFault (n : LineId) (s : State) (k : FaultKind) : OnlyLine n s (s.compareFault n k) := by
  unfold State.compareFault
  dsimp only
  split
  · exact .refl _ _
  · exact .trans (.updLine _ _ _) (.send _ _ _ _ _ _)

/-- A good frame applied to one line works on that line alone (R1, R7). -/
theorem OnlyLine.scanLine (n : LineId) (s : State) (f : Vector Octet 65) : OnlyLine n s (s.scanLine f n) := by
  unfold State.scanLine
  split
  · dsimp only
    split
    · exact .trans (.compareFault _ _ _) (.settle _ _ _ _)
    · exact .trans (.compareFault _ _ _) (.updLine _ _ _)
  · exact .refl _ _

/-- A change of owner writes LAT's part of its line and the ports, and nothing else (R143, R145). -/
theorem changeOwner_frame (s : State) (n : LineId) (new : Owner) (c : OwnerCause) :
    s.changeOwner n new c
      = { s with
          lines := s.lines.set n
            { s.line n with lat := { (s.line n).lat with owner := new, epoch := (s.line n).lat.epoch + 1 } }
          portA := (s.changeOwner n new c).portA
          portB := (s.changeOwner n new c).portB
          portM := (s.changeOwner n new c).portM } := by
  unfold State.changeOwner State.sendOwnerChange State.sendSnapshot
  cases (s.line n).lat.owner <;> cases new <;> rfl

/-- A grant works on the lines and the generators alone (R116). -/
theorem grant_frame (s : State) (n : LineId) (g : Fin 8) :
    s.grant n g = { s with lines := (s.grant n g).lines, gens := (s.grant n g).gens } := by
  unfold State.grant
  split <;> rfl

theorem foldl_grant_frame (l : List (LineId × Fin 8)) (s : State) :
    ∃ ls gs, l.foldl (fun t x => t.grant x.1 x.2) s = { s with lines := ls, gens := gs } := by
  induction l generalizing s with
  | nil => exact ⟨s.lines, s.gens, rfl⟩
  | cons x rest ih =>
    obtain ⟨ls, gs, h⟩ := ih (s.grant x.1 x.2)
    exact ⟨ls, gs, by rw [List.foldl_cons, h, grant_frame]⟩

/-- The arbiter's work leaves everything but the lines, the generators and the waiting list (R115). -/
theorem boundaryFirst_frame (s : State) :
    ∃ ls gs w, s.boundaryFirst = { s with lines := ls, gens := gs, waiting := w, arbiterDue := false } := by
  unfold State.boundaryFirst
  split
  · unfold State.arbitrate
    obtain ⟨ls, gs, h⟩ := foldl_grant_frame (s.waiting.zip s.freeGenerators)
      { s with waiting := s.waiting.drop s.freeGenerators.length, arbiterDue := false }
    exact ⟨ls, gs, _, h⟩
  · next h =>
    refine ⟨s.lines, s.gens, s.waiting, ?_⟩
    have : s.arbiterDue = false := by simpa using h
    rw [← this]

end Sys2Proof.Machine
end

