-- ==== Sys2Proof/Laws/Operands.lean ====
section
/-! SUPPORT. Lemmas about the wire forms: what is written as two octets is read back. -/

namespace Sys2Proof.Machine

theorem be16_length (n : Nat) : (be16 n).length = 2 := rfl

/-- Two octets, most significant first, give back a 16-bit value (R171). -/
theorem octets_of_word16 (n : Nat) (h : n < 65536) : (octet (n / 256)).toNat * 256 + (octet n).toNat = n := by
  simp [octet]
  omega

/-- A value inside its range survives being written as two octets and being read and clamped (R59, R176). -/
theorem clamp_word16At (l : List Octet) (n i lo hi : Nat) (h0 : l.getD i 0 = octet (n / 256))
    (h1 : l.getD (i + 1) 0 = octet n) (hlo : lo ≤ n) (hhi : n ≤ hi) (h16 : hi < 65536) :
    clamp lo hi (word16At l i) = n := by
  unfold word16At clamp
  rw [h0, h1, octets_of_word16 n (by omega)]
  omega

/-- A clamped value lies in its range. -/
theorem clamp_range (lo hi n : Nat) (h : lo ≤ hi) : lo ≤ clamp lo hi n ∧ clamp lo hi n ≤ hi := by
  unfold clamp
  omega

theorem numbering_code (x : Numbering) : Numbering.ofOctet (octet x.code) = some x := by cases x <;> rfl

theorem onOff_code (b : Bool) : onOffOfOctet (flagOctet b) = some b := by cases b <;> rfl

theorem level_code (x : Level) : Level.ofOctet (octet x.code) = some x := by cases x <;> rfl

theorem owner_code (x : Owner) : Owner.ofOctet (octet x.code) = some x := by cases x <;> rfl

/-! ## Codes in request data -/

/-- A numbering octet above 2 is undefined (R176). -/
theorem numbering_undefined (o : Octet) (h : 2 < o.toNat) : Numbering.ofOctet o = none := by
  unfold Numbering.ofOctet
  split <;> simp_all

/-- A numbering octet is read by its code (R176). -/
theorem numbering_of_code (o : Octet) (x : Numbering) (h : o.toNat = x.code) : Numbering.ofOctet o = some x := by
  unfold Numbering.ofOctet
  cases x <;> simp [Numbering.code] at h <;> simp [h]

/-- An OFF or ON octet above 1 is undefined (R176). -/
theorem onOff_undefined (o : Octet) (h : 1 < o.toNat) : onOffOfOctet o = none := by
  unfold onOffOfOctet
  split <;> simp_all

/-- 0 is read as OFF and 1 as ON (R176). -/
theorem onOff_of_le (o : Octet) (h : o.toNat ≤ 1) : onOffOfOctet o = some (decide (o.toNat = 1)) := by
  unfold onOffOfOctet
  split <;> simp_all
  omega

/-- A level octet above 1 is undefined (R180). -/
theorem level_undefined (l : Octet) (h : 1 < l.toNat) : Level.ofOctet l = none := by
  unfold Level.ofOctet
  split <;> simp_all

/-- 0 is read as BREAK and 1 as MAKE (R180). -/
theorem level_of_le (l : Octet) (h : l.toNat ≤ 1) :
    Level.ofOctet l = some (if l.toNat = 1 then .make else .brk) := by
  unfold Level.ofOctet
  split <;> simp_all
  omega

/-- A branch is refused for a kind above 3, and for a CONTINUE or HOLD whose target is no node (R90). -/
theorem branch_refused (kind target : Octet)
    (h : 3 < kind.toNat ∨ ((kind.toNat = 0 ∨ kind.toNat = 2) ∧ 63 < target.toNat)) :
    Branch.ofOctets kind target = none := by
  unfold Branch.ofOctets
  rcases h with h | ⟨h | h, ht⟩
  · split <;> first | rfl | omega
  · rw [h]
    exact dif_neg (by omega)
  · rw [h]
    exact dif_neg (by omega)

/-! ## Lists read group by group -/

/-- A pair of octets and what follows it: refused where either is, else the branch and then the others (R90). -/
theorem branchesOfOctets_cons (k t : Octet) (rest : List Octet) :
    branchesOfOctets (k :: t :: rest)
      = (Branch.ofOctets k t).bind fun b => (branchesOfOctets rest).map (b :: ·) := by
  rw [branchesOfOctets]
  cases Branch.ofOctets k t <;> cases branchesOfOctets rest <;> rfl

/-- Three octets and what follows them: refused where the level, the duration or the rest is, else the segment and then the
others (R180). -/
theorem segmentsOfOctets_cons (l hi lo : Octet) (rest : List Octet) :
    segmentsOfOctets (l :: hi :: lo :: rest)
      = if 1 ≤ hi.toNat * 256 + lo.toNat ∧ hi.toNat * 256 + lo.toNat ≤ 4095 then
          (Level.ofOctet l).bind fun level =>
            (segmentsOfOctets rest).map (⟨level, hi.toNat * 256 + lo.toNat⟩ :: ·)
        else none := by
  rw [segmentsOfOctets]
  cases Level.ofOctet l <;> cases segmentsOfOctets rest <;> simp

end Sys2Proof.Machine
end

