-- ==== Sys2Proof/Laws/PerInstr.lean ====
section
/-! SUPPORT. One lemma for each command: the request octets of a well-formed row spell that row again. -/

/-- The request of a well-formed row spells that row: no operand of the row is lost in its octets (R158, R173). A row that is
no command of the set has no request. -/
def Sys2Proof.Laws.RequestRoundTrip.Statement (i : Sys2Proof.Instr) : Prop :=
  i.wellFormed = true →
    ∀ (p : Sys2Proof.PortId) (c t : Sys2Proof.Octet) (d : List Sys2Proof.Octet),
      Sys2Proof.requestOfRow i = some (p, c, t, d) → Sys2Proof.rowOfRequest p c t d = i

namespace Sys2Proof.Laws.RequestRoundTrip

theorem powerOnReset : Statement .powerOnReset := by
  intro _ p c t d h
  cases (show (none : Option (PortId × Octet × Octet × List Octet)) = some _ from h)

theorem frameBoundary (down : Vector Sample 32) (up : Vector Sample 32) : Statement (.frameBoundary down up) := by
  intro _ p c t d h
  cases (show (none : Option (PortId × Octet × Octet × List Octet)) = some _ from h)

theorem tickBoundary (down : Vector Sample 32) (up : Vector Sample 32) : Statement (.tickBoundary down up) := by
  intro _ p c t d h
  cases (show (none : Option (PortId × Octet × Octet × List Octet)) = some _ from h)

theorem goodFrame (octets : Vector Octet 65) : Statement (.goodFrame octets) := by
  intro _ p c t d h
  cases (show (none : Option (PortId × Octet × Octet × List Octet)) = some _ from h)

theorem missedFrame : Statement .missedFrame := by
  intro _ p c t d h
  cases (show (none : Option (PortId × Octet × Octet × List Octet)) = some _ from h)

theorem scanLoss : Statement .scanLoss := by
  intro _ p c t d h
  cases (show (none : Option (PortId × Octet × Octet × List Octet)) = some _ from h)

theorem debouncedStateChange (line : LineId) : Statement (.debouncedStateChange line) := by
  intro _ p c t d h
  cases (show (none : Option (PortId × Octet × Octet × List Octet)) = some _ from h)

theorem seizure (line : LineId) : Statement (.seizure line) := by
  intro _ p c t d h
  cases (show (none : Option (PortId × Octet × Octet × List Octet)) = some _ from h)

theorem makeConfirmed (line : LineId) : Statement (.makeConfirmed line) := by
  intro _ p c t d h
  cases (show (none : Option (PortId × Octet × Octet × List Octet)) = some _ from h)

theorem digitComplete (line : LineId) : Statement (.digitComplete line) := by
  intro _ p c t d h
  cases (show (none : Option (PortId × Octet × Octet × List Octet)) = some _ from h)

theorem release (line : LineId) : Statement (.release line) := by
  intro _ p c t d h
  cases (show (none : Option (PortId × Octet × Octet × List Octet)) = some _ from h)

theorem dialTimeout (line : LineId) : Statement (.dialTimeout line) := by
  intro _ p c t d h
  cases (show (none : Option (PortId × Octet × Octet × List Octet)) = some _ from h)

theorem autoProceedExpiry (line : LineId) : Statement (.autoProceedExpiry line) := by
  intro _ p c t d h
  cases (show (none : Option (PortId × Octet × Octet × List Octet)) = some _ from h)

theorem generatorGrant : Statement .generatorGrant := by
  intro _ p c t d h
  cases (show (none : Option (PortId × Octet × Octet × List Octet)) = some _ from h)

theorem onPhaseEnd (line : LineId) : Statement (.onPhaseEnd line) := by
  intro _ p c t d h
  cases (show (none : Option (PortId × Octet × Octet × List Octet)) = some _ from h)

theorem offPhaseEnd (line : LineId) : Statement (.offPhaseEnd line) := by
  intro _ p c t d h
  cases (show (none : Option (PortId × Octet × Octet × List Octet)) = some _ from h)

theorem patternSegmentAdvance : Statement .patternSegmentAdvance := by
  intro _ p c t d h
  cases (show (none : Option (PortId × Octet × Octet × List Octet)) = some _ from h)

theorem patternDone : Statement .patternDone := by
  intro _ p c t d h
  cases (show (none : Option (PortId × Octet × Octet × List Octet)) = some _ from h)

theorem frameBegin (port : PortId) : Statement (.frameBegin port) := by
  intro _ p c t d h
  cases (show (none : Option (PortId × Octet × Octet × List Octet)) = some _ from h)

theorem frameEnd (port : PortId) : Statement (.frameEnd port) := by
  intro _ p c t d h
  cases (show (none : Option (PortId × Octet × Octet × List Octet)) = some _ from h)

theorem unknownCommand (port : PortId) (code : Octet) (target : Octet) (data : List Octet) : Statement (.unknownCommand port code target data) := by
  intro w p c t d h
  cases (show some (port, code, target, data) = some (p, c, t, d) from h)
  have h1 := (Bool.and_eq_true _ _ ▸ w : _ ∧ _).1
  have e : code = BitVec.ofNat 8 code.toNat := by simp
  unfold rowOfRequest
  split
  all_goals first
    | rfl
    | next heq =>
      rw [heq] at e
      rw [e] at h1
      exact absurd h1 (by decide)

theorem nop (port : PortId) (target : Octet) (data : List Octet) : Statement (.nop port target data) := by
  intro _ p c t d h
  cases (show some (port, 0x00, target, data) = some (p, c, t, d) from h)
  rfl

theorem readLine (port : PortId) (target : Octet) (data : List Octet) : Statement (.readLine port target data) := by
  intro _ p c t d h
  cases (show some (port, 0x01, target, data) = some (p, c, t, d) from h)
  rfl

theorem peekQueue (port : PortId) (target : Octet) (data : List Octet) : Statement (.peekQueue port target data) := by
  intro _ p c t d h
  cases (show some (port, 0x02, target, data) = some (p, c, t, d) from h)
  rfl

theorem readEvents (port : PortId) (target : Octet) (data : List Octet) : Statement (.readEvents port target data) := by
  intro _ p c t d h
  cases (show some (port, 0x03, target, data) = some (p, c, t, d) from h)
  rfl

theorem readProfile (port : PortId) (target : Octet) (data : List Octet) : Statement (.readProfile port target data) := by
  intro _ p c t d h
  cases (show some (port, 0x04, target, data) = some (p, c, t, d) from h)
  rfl

theorem readPlan (port : PortId) (target : Octet) (data : List Octet) : Statement (.readPlan port target data) := by
  intro _ p c t d h
  cases (show some (port, 0x05, target, data) = some (p, c, t, d) from h)
  rfl

theorem readPool (port : PortId) (target : Octet) (data : List Octet) : Statement (.readPool port target data) := by
  intro _ p c t d h
  cases (show some (port, 0x06, target, data) = some (p, c, t, d) from h)
  rfl

theorem writeProfile (port : PortId) (target : Octet) (data : List Octet) : Statement (.writeProfile port target data) := by
  intro _ p c t d h
  cases (show some (port, 0x10, target, data) = some (p, c, t, d) from h)
  rfl

theorem writePlan (port : PortId) (target : Octet) (data : List Octet) : Statement (.writePlan port target data) := by
  intro _ p c t d h
  cases (show some (port, 0x11, target, data) = some (p, c, t, d) from h)
  rfl

theorem claim (port : PortId) (target : Octet) (data : List Octet) : Statement (.claim port target data) := by
  intro _ p c t d h
  cases (show some (port, 0x20, target, data) = some (p, c, t, d) from h)
  rfl

theorem relinquish (port : PortId) (target : Octet) (data : List Octet) : Statement (.relinquish port target data) := by
  intro _ p c t d h
  cases (show some (port, 0x21, target, data) = some (p, c, t, d) from h)
  rfl

theorem takeover (port : PortId) (target : Octet) (data : List Octet) : Statement (.takeover port target data) := by
  intro w p c t d h
  cases (show some (port, 0x22, target, data) = some (p, c, t, d) from h)
  have h1 := (Bool.and_eq_true _ _ ▸ w : _ ∧ _).1
  exact if_neg (bne_iff_ne.1 h1)

theorem takeoverAll (port : PortId) (data : List Octet) : Statement (.takeoverAll port data) := by
  intro _ p c t d h
  cases (show some (port, 0x22, 255, data) = some (p, c, t, d) from h)
  rfl

theorem assign (port : PortId) (target : Octet) (data : List Octet) : Statement (.assign port target data) := by
  intro _ p c t d h
  cases (show some (port, 0x23, target, data) = some (p, c, t, d) from h)
  rfl

theorem setServiceIn (port : PortId) (target : Octet) (data : List Octet) : Statement (.setServiceIn port target data) := by
  intro w p c t d h
  cases (show some (port, 0x24, target, data) = some (p, c, t, d) from h)
  have h1 := (Bool.and_eq_true _ _ ▸ w : _ ∧ _).1
  exact if_neg (bne_iff_ne.1 h1)

theorem setServiceOut (port : PortId) (target : Octet) (data : List Octet) : Statement (.setServiceOut port target data) := by
  intro w p c t d h
  cases (show some (port, 0x24, target, data) = some (p, c, t, d) from h)
  exact if_pos (eq_of_beq w)

theorem assignProfile (port : PortId) (target : Octet) (data : List Octet) : Statement (.assignProfile port target data) := by
  intro _ p c t d h
  cases (show some (port, 0x25, target, data) = some (p, c, t, d) from h)
  rfl

theorem proceed (port : PortId) (target : Octet) (data : List Octet) : Statement (.proceed port target data) := by
  intro _ p c t d h
  cases (show some (port, 0x30, target, data) = some (p, c, t, d) from h)
  rfl

theorem cutThrough (port : PortId) (target : Octet) (data : List Octet) : Statement (.cutThrough port target data) := by
  intro _ p c t d h
  cases (show some (port, 0x31, target, data) = some (p, c, t, d) from h)
  rfl

theorem planRelease (port : PortId) (target : Octet) (data : List Octet) : Statement (.planRelease port target data) := by
  intro _ p c t d h
  cases (show some (port, 0x32, target, data) = some (p, c, t, d) from h)
  rfl

theorem planDiscard (port : PortId) (target : Octet) (data : List Octet) : Statement (.planDiscard port target data) := by
  intro _ p c t d h
  cases (show some (port, 0x33, target, data) = some (p, c, t, d) from h)
  rfl

theorem flashAck (port : PortId) (target : Octet) (data : List Octet) : Statement (.flashAck port target data) := by
  intro _ p c t d h
  cases (show some (port, 0x34, target, data) = some (p, c, t, d) from h)
  rfl

theorem purge (port : PortId) (target : Octet) (data : List Octet) : Statement (.purge port target data) := by
  intro _ p c t d h
  cases (show some (port, 0x35, target, data) = some (p, c, t, d) from h)
  rfl

theorem lineReset (port : PortId) (target : Octet) (data : List Octet) : Statement (.lineReset port target data) := by
  intro _ p c t d h
  cases (show some (port, 0x36, target, data) = some (p, c, t, d) from h)
  rfl

theorem testEnter (port : PortId) (target : Octet) (data : List Octet) : Statement (.testEnter port target data) := by
  intro _ p c t d h
  cases (show some (port, 0x40, target, data) = some (p, c, t, d) from h)
  rfl

theorem testExit (port : PortId) (target : Octet) (data : List Octet) : Statement (.testExit port target data) := by
  intro _ p c t d h
  cases (show some (port, 0x41, target, data) = some (p, c, t, d) from h)
  rfl

theorem loadPattern (port : PortId) (target : Octet) (data : List Octet) : Statement (.loadPattern port target data) := by
  intro _ p c t d h
  cases (show some (port, 0x42, target, data) = some (p, c, t, d) from h)
  rfl

theorem startPattern (port : PortId) (target : Octet) (data : List Octet) : Statement (.startPattern port target data) := by
  intro _ p c t d h
  cases (show some (port, 0x43, target, data) = some (p, c, t, d) from h)
  rfl

theorem abortPattern (port : PortId) (target : Octet) (data : List Octet) : Statement (.abortPattern port target data) := by
  intro _ p c t d h
  cases (show some (port, 0x44, target, data) = some (p, c, t, d) from h)
  rfl

theorem watch (port : PortId) (target : Octet) (data : List Octet) : Statement (.watch port target data) := by
  intro _ p c t d h
  cases (show some (port, 0x45, target, data) = some (p, c, t, d) from h)
  rfl

theorem readWatch (port : PortId) (target : Octet) (data : List Octet) : Statement (.readWatch port target data) := by
  intro _ p c t d h
  cases (show some (port, 0x46, target, data) = some (p, c, t, d) from h)
  rfl

theorem readCheck (port : PortId) (target : Octet) (data : List Octet) : Statement (.readCheck port target data) := by
  intro _ p c t d h
  cases (show some (port, 0x47, target, data) = some (p, c, t, d) from h)
  rfl

theorem readStats (port : PortId) (target : Octet) (data : List Octet) : Statement (.readStats port target data) := by
  intro _ p c t d h
  cases (show some (port, 0x48, target, data) = some (p, c, t, d) from h)
  rfl

theorem partReset (port : PortId) (target : Octet) (data : List Octet) : Statement (.partReset port target data) := by
  intro _ p c t d h
  cases (show some (port, 0x4F, target, data) = some (p, c, t, d) from h)
  rfl

theorem octetTime (port : PortId) (octet : Octet) : Statement (.octetTime port octet) := by
  intro _ p c t d h
  cases (show (none : Option (PortId × Octet × Octet × List Octet)) = some _ from h)

end Sys2Proof.Laws.RequestRoundTrip
end

