-- ==== Sys2Proof/Laws/Sine.lean ====
section
/-! SUPPORT. The sine table against the sine itself (R137): each entry lies within one half of 32767 · sin(2πi / 256). -/

namespace Sys2Proof.Machine

/-- Powers of numbers on and in the unit disc stay close. -/
theorem norm_pow_sub_pow_le (z w : ℂ) (hz : ‖z‖ = 1) (hw : ‖w‖ ≤ 1) (n : ℕ) : ‖z ^ n - w ^ n‖ ≤ n * ‖z - w‖ := by
  induction n with
  | zero => simp
  | succ n ih =>
    have e : z ^ (n + 1) - w ^ (n + 1) = z * (z ^ n - w ^ n) + (z - w) * w ^ n := by ring
    have h : ‖(z - w) * w ^ n‖ ≤ ‖z - w‖ := by
      rw [norm_mul, norm_pow]
      exact mul_le_of_le_one_right (norm_nonneg _) (pow_le_one₀ (norm_nonneg _) hw)
    calc ‖z ^ (n + 1) - w ^ (n + 1)‖ ≤ ‖z * (z ^ n - w ^ n)‖ + ‖(z - w) * w ^ n‖ := e ▸ norm_add_le _ _
      _ ≤ n * ‖z - w‖ + ‖z - w‖ := by
        rw [norm_mul, hz, one_mul]
        exact add_le_add ih h
      _ = (n + 1 : ℕ) * ‖z - w‖ := by push_cast; ring

/-- The powers of a number with integer parts, as their parts. -/
def gaussPow (a b : ℤ) : ℕ → ℤ × ℤ
  | 0 => (1, 0)
  | n + 1 => ((gaussPow a b n).1 * a - (gaussPow a b n).2 * b, (gaussPow a b n).1 * b + (gaussPow a b n).2 * a)

/-- `gaussPow` gives the parts of the power. -/
theorem gaussPow_spec (a b : ℤ) (n : ℕ) :
    ((a : ℂ) + b * Complex.I) ^ n = ((gaussPow a b n).1 : ℂ) + (gaussPow a b n).2 * Complex.I := by
  induction n with
  | zero => simp [gaussPow]
  | succ n ih =>
    rw [pow_succ, ih, gaussPow]
    push_cast
    linear_combination ((gaussPow a b n).2 * b : ℂ) * Complex.I_sq

/-- The angle between two entries, `π / 128`, to 22 places. -/
def stepAngle : ℝ := 0.0245436926061702596754

/-- The cosine of the angle between two entries, in units of 10^-15. -/
def stepCos : ℤ := 999698818696204

/-- The sine of the angle between two entries, in units of 10^-15. -/
def stepSin : ℤ := 24541228522912

/-- The turn by the angle between two entries, as a rational point of the unit disc. -/
noncomputable def turn : ℂ := (stepCos : ℂ) / 10 ^ 15 + (stepSin : ℂ) / 10 ^ 15 * Complex.I

/-- The rational turn lies in the unit disc. -/
theorem norm_turn_le : ‖turn‖ ≤ 1 := by
  have h : turn = ((stepCos / 10 ^ 15 : ℝ) : ℂ) + ((stepSin / 10 ^ 15 : ℝ) : ℂ) * Complex.I := by
    unfold turn; push_cast; ring
  rw [h, Complex.norm_add_mul_I]
  exact Real.sqrt_le_one.2 (by norm_num [stepCos, stepSin])

/-- The rational turn is the turn by `stepAngle`, to 12 places. -/
theorem exp_near_turn : ‖Complex.exp (stepAngle * Complex.I) - turn‖ ≤ 1 / 10 ^ 12 := by
  have hn : ‖(stepAngle : ℂ) * Complex.I‖ = stepAngle := by
    rw [norm_mul, Complex.norm_I, mul_one, Complex.norm_real, Real.norm_of_nonneg (by norm_num [stepAngle])]
  have b := Complex.exp_bound (x := stepAngle * Complex.I) (by rw [hn]; norm_num [stepAngle]) (n := 6) (by norm_num)
  rw [hn] at b
  set x : ℝ := stepAngle with hx
  have e : (∑ m ∈ Finset.range 6, ((x : ℂ) * Complex.I) ^ m / m.factorial)
      = ((1 - x ^ 2 / 2 + x ^ 4 / 24 : ℝ) : ℂ) + ((x - x ^ 3 / 6 + x ^ 5 / 120 : ℝ) : ℂ) * Complex.I := by
    simp only [Finset.sum_range_succ, Finset.sum_range_zero, Nat.factorial]
    push_cast
    have i2 := Complex.I_sq
    have i3 : Complex.I ^ 3 = -Complex.I := Complex.I_pow_three
    have i4 : Complex.I ^ 4 = 1 := Complex.I_pow_four
    have i5 : Complex.I ^ 5 = Complex.I := by rw [pow_succ, i4, one_mul]
    simp only [mul_pow, i2, i3, i4, i5]
    ring
  have c : ‖(∑ m ∈ Finset.range 6, ((x : ℂ) * Complex.I) ^ m / m.factorial) - turn‖ ≤ 4 / 10 ^ 13 := by
    have h : (∑ m ∈ Finset.range 6, ((x : ℂ) * Complex.I) ^ m / m.factorial) - turn
        = ((1 - x ^ 2 / 2 + x ^ 4 / 24 - stepCos / 10 ^ 15 : ℝ) : ℂ)
          + ((x - x ^ 3 / 6 + x ^ 5 / 120 - stepSin / 10 ^ 15 : ℝ) : ℂ) * Complex.I := by
      rw [e]; unfold turn; push_cast; ring
    rw [h]
    refine (Complex.norm_le_abs_re_add_abs_im _).trans ?_
    simp only [Complex.add_re, Complex.ofReal_re, Complex.mul_re, Complex.I_re, Complex.ofReal_im, Complex.I_im,
      Complex.add_im, Complex.mul_im]
    rw [hx]
    norm_num [stepAngle, stepCos, stepSin, abs_le]
  have t : x ^ 6 * (((6 : ℕ).succ : ℝ) * ((Nat.factorial 6 * (6 : ℕ) : ℝ))⁻¹) ≤ 4 / 10 ^ 13 := by
    rw [hx]; norm_num [stepAngle, Nat.factorial]
  calc ‖Complex.exp (x * Complex.I) - turn‖
      = ‖(Complex.exp (x * Complex.I) - ∑ m ∈ Finset.range 6, ((x : ℂ) * Complex.I) ^ m / m.factorial)
          + ((∑ m ∈ Finset.range 6, ((x : ℂ) * Complex.I) ^ m / m.factorial) - turn)‖ := by congr 1; ring
    _ ≤ 4 / 10 ^ 13 + 4 / 10 ^ 13 := (norm_add_le _ _).trans (add_le_add (b.trans t) c)
    _ ≤ 1 / 10 ^ 12 := by norm_num

/-- The table's entry against the turn's power, in integers. -/
theorem sine_near_gaussPow : ∀ i : Fin 65,
    1000 * (sine i.val * 10 ^ (15 * i.val) - 32767 * (gaussPow stepCos stepSin i.val).2).natAbs
      ≤ 494 * 10 ^ (15 * i.val) := by
  decide +kernel

/-- The first quarter of the table is the rounded sine. -/
theorem sine_quarter_near (i : ℕ) (hi : i ≤ 64) :
    |(sine i : ℝ) - 32767 * Real.sin (2 * Real.pi * i / 256)| < 1 / 2 := by
  set p := gaussPow stepCos stepSin i with hp
  have im : ((turn ^ i).im) = p.2 / 10 ^ (15 * i) := by
    have h : turn = ((stepCos : ℂ) + stepSin * Complex.I) / 10 ^ 15 := by unfold turn; ring
    rw [h, div_pow, gaussPow_spec, ← pow_mul, ← hp]
    have : ((p.1 : ℂ) + p.2 * Complex.I) / 10 ^ (15 * i)
        = ((p.1 / 10 ^ (15 * i) : ℝ) : ℂ) + ((p.2 / 10 ^ (15 * i) : ℝ) : ℂ) * Complex.I := by push_cast; ring
    rw [this]
    simp only [Complex.add_im, Complex.ofReal_im, Complex.mul_im, Complex.ofReal_re, Complex.I_im, Complex.I_re]
    ring
  have near : |Real.sin (i * stepAngle) - p.2 / 10 ^ (15 * i)| ≤ 64 / 10 ^ 12 := by
    have h := norm_pow_sub_pow_le (Complex.exp (stepAngle * Complex.I)) turn
      (Complex.norm_exp_ofReal_mul_I _) norm_turn_le i
    have e : (Complex.exp (stepAngle * Complex.I) ^ i - turn ^ i).im
        = Real.sin (i * stepAngle) - p.2 / 10 ^ (15 * i) := by
      rw [Complex.sub_im, im, ← Complex.exp_nat_mul]
      have : (i : ℂ) * (stepAngle * Complex.I) = ((i * stepAngle : ℝ) : ℂ) * Complex.I := by push_cast; ring
      rw [this, Complex.exp_ofReal_mul_I_im]
    rw [← e]
    have hi' : (i : ℝ) ≤ 64 := by exact_mod_cast hi
    calc _ ≤ _ := Complex.abs_im_le_norm _
      _ ≤ _ := h
      _ ≤ 64 * (1 / 10 ^ 12) := mul_le_mul hi' exp_near_turn (norm_nonneg _) (by norm_num)
      _ = _ := by norm_num
  have angle : |Real.sin (2 * Real.pi * i / 256) - Real.sin (i * stepAngle)| ≤ 1 / 10 ^ 12 := by
    refine (Real.abs_sin_sub_sin_le _ _).trans ?_
    have e : 2 * Real.pi * i / 256 - i * stepAngle = i * (Real.pi / 128 - stepAngle) := by ring
    have hi' : (i : ℝ) ≤ 64 := by exact_mod_cast hi
    have hd : |Real.pi / 128 - stepAngle| ≤ 1 / 10 ^ 14 := by
      have := Real.pi_gt_d20
      have := Real.pi_lt_d20
      unfold stepAngle
      rw [abs_le]
      constructor <;> linarith
    rw [e, abs_mul, Nat.abs_cast]
    calc _ ≤ 64 * (1 / 10 ^ 14 : ℝ) := mul_le_mul hi' hd (abs_nonneg _) (by norm_num)
      _ ≤ _ := by norm_num
  have table : |(sine i : ℝ) - 32767 * (p.2 / 10 ^ (15 * i))| ≤ 494 / 1000 := by
    have h := sine_near_gaussPow ⟨i, by omega⟩
    simp only [← hp] at h
    have pos : (0 : ℝ) < 10 ^ (15 * i) := by positivity
    have c : ((1000 * (sine i * 10 ^ (15 * i) - 32767 * p.2).natAbs : ℕ) : ℝ) ≤ ((494 * 10 ^ (15 * i) : ℕ) : ℝ) := by
      exact_mod_cast h
    push_cast [Nat.cast_natAbs] at c
    have e : (sine i : ℝ) - 32767 * (p.2 / 10 ^ (15 * i)) = (sine i * 10 ^ (15 * i) - 32767 * p.2) / 10 ^ (15 * i) := by
      field_simp
    rw [e, abs_div, abs_of_pos pos, div_le_iff₀ pos]
    linarith
  rw [abs_le] at near angle table
  rw [abs_lt]
  constructor <;> linarith [near.1, near.2, angle.1, angle.2, table.1, table.2]

/-- Every entry of the table is the rounded sine: it is nearer than one half, so no half arises to be rounded (R137). -/
theorem sine_near (i : ℕ) (hi : i ≤ 255) : |(sine i : ℝ) - 32767 * Real.sin (2 * Real.pi * i / 256)| < 1 / 2 := by
  by_cases h1 : i ≤ 64
  · exact sine_quarter_near i h1
  by_cases h2 : i ≤ 128
  · have q := sine_quarter_near (128 - i) (by omega)
    have e : sine i = sine (128 - i) := by
      have : 128 - i ≤ 64 := by omega
      simp [sine, h1, h2, this]
    have a : 2 * Real.pi * (i : ℝ) / 256 = Real.pi - 2 * Real.pi * ((128 - i : ℕ) : ℝ) / 256 := by
      rw [Nat.cast_sub h2]; push_cast; ring
    rwa [e, a, Real.sin_pi_sub]
  by_cases h3 : i ≤ 192
  · have q := sine_quarter_near (i - 128) (by omega)
    have e : sine i = -sine (i - 128) := by
      have : i - 128 ≤ 64 := by omega
      simp only [sine, if_neg h1, if_neg h2, if_pos h3, if_pos this]
    have a : 2 * Real.pi * (i : ℝ) / 256 = 2 * Real.pi * ((i - 128 : ℕ) : ℝ) / 256 + Real.pi := by
      rw [Nat.cast_sub (by omega)]; push_cast; ring
    rw [e, a, Real.sin_add_pi, ← abs_neg]
    push_cast
    rwa [show -(-(sine (i - 128) : ℝ) - 32767 * -Real.sin (2 * Real.pi * ((i - 128 : ℕ) : ℝ) / 256))
      = (sine (i - 128) : ℝ) - 32767 * Real.sin (2 * Real.pi * ((i - 128 : ℕ) : ℝ) / 256) by ring]
  · have q := sine_quarter_near (256 - i) (by omega)
    have e : sine i = -sine (256 - i) := by
      have : 256 - i ≤ 64 := by omega
      simp only [sine, if_neg h1, if_neg h2, if_neg h3, if_pos this]
    have a : 2 * Real.pi * (i : ℝ) / 256 = 2 * Real.pi - 2 * Real.pi * ((256 - i : ℕ) : ℝ) / 256 := by
      rw [Nat.cast_sub (by omega)]; push_cast; ring
    rw [e, a, Real.sin_two_pi_sub, ← abs_neg]
    push_cast
    rwa [show -(-(sine (256 - i) : ℝ) - 32767 * -Real.sin (2 * Real.pi * ((256 - i : ℕ) : ℝ) / 256))
      = (sine (256 - i) : ℝ) - 32767 * Real.sin (2 * Real.pi * ((256 - i : ℕ) : ℝ) / 256) by ring]

end Sys2Proof.Machine
end

