-- ==== Sys2Proof/Tests/Slice0.lean ====
section
/-! SUPPORT. Tests by evaluation: ill-formed rows that the check refuses, the manual's worked values, one step of each row, and for every statement with premises a state and operands that meet them. -/

namespace Sys2Proof.Tests

set_option Elab.async false

open Sys2Proof Sys2Proof.Machine

/-! ## Small states -/

/-- The state after a command; the state itself where it stops. -/
def run (c : Instr) (s : State) : State :=
  match exec c s with
  | .next t => t
  | .fault _ => s
  | .refused _ => s

/-- The octets of the response that a port holds, as numbers. -/
def reply (p : PortId) (s : State) : List Nat :=
  match (s.port p).response with
  | some w => w.octets.map BitVec.toNat
  | none => []

/-- The events in a port's queue: kind, then line, epoch, seq, arg1 and arg2. -/
def events (p : PortId) (s : State) : List (EventKind × List Nat) :=
  (s.port p).queue.map fun e => (e.kind, [e.line.toNat, e.epoch.toNat, e.seq.toNat, e.arg1.toNat, e.arg2.toNat])

/-- The reset state with line 3 changed. -/
def with3 (f : Line → Line) : State := State.reset.updLine 3 f

/-- A record with the symbol 5. -/
def rec5 (k : Fin 256) (m : Mark) : DigitRecord := ⟨k, .digit 5, 5, {}, 1, 0, m⟩

/-- Line 3 in a call under controller A, in this stage, with these records and this gate. -/
def inCall (stage : Stage) (queue : List DigitRecord) (gate : Bool) (l : Line) : Line :=
  { l with
    lat := { l.lat with owner := .a, service := .inService }
    npw := { l.npw with stage := stage }
    pd := { l.pd with state := .make }
    ds := { l.ds with queue := queue }
    es := { l.es with gate := gate } }

/-- Line 3 in TEST, in stage IDLE. -/
def inTest (l : Line) : Line :=
  { l with lat := { l.lat with service := .test }, mu := { l.mu with testLevel := some .brk } }

/-- The digits on which line 3 stands on hold: one sent on, one held, one unwalked. -/
def heldQueue : List DigitRecord := [rec5 0 .none, rec5 1 .held, rec5 2 .unwalked]

/-- Line 3 on hold, with the saved node 5. -/
def onHold : State :=
  with3 fun l =>
    let c := inCall .dialling heldQueue true l
    { c with npw := { c.npw with held := true, savedNode := 5, walked := 2 } }

/-- Line 3 with a break of `b` ms to be confirmed, in a digit of two pulses or in none. -/
def confirming (b : Nat) (inDigit : Bool) (stage : Stage) : State :=
  with3 fun l =>
    let c := inCall stage [] false l
    { c with
      pd := { c.pd with
        state := .makePending, makeTimer := 15, b := b, mPrev := 40, inDigit := inDigit
        pulseCount := if inDigit then 2 else 0, tId := if inDigit then some 300 else none }
      due := .limits }

/-- Line 3 with a digit of `k` pulses that has reached its limit. -/
def completing (k : Nat) (stage : Stage) : State :=
  with3 fun l =>
    let c := inCall stage [] false l
    { c with
      pd := { c.pd with inDigit := true, pulseCount := k, tId := some 300, makeTimer := 300 }
      due := .limits }

/-- Line 3 in conversation at the end of its burst on generator 2, with one more record behind the head. -/
def bursting : State :=
  { (with3 fun l =>
      let c := inCall .conversation [rec5 0 .none, rec5 1 .none] true l
      { c with
        ds := { c.ds with inEmission := true }
        es := { c.es with emission := .toneOn, remaining := 0, generator := some 2 } }).updGen 2
      (fun g => g.setUp 3 (.digit 5) Profile.default false) with
    freeList := (List.finRange 256).drop 2 }

/-- Lines 3 and 9 waiting at a boundary at which the arbiter has still to act. -/
def twoWaiting : State :=
  { (with3 fun l =>
      let c := inCall .conversation [rec5 0 .none] true l
      { c with es := { c.es with emission := .waitingGen } }).updLine 9 (fun l =>
      let c := inCall .dialling [rec5 1 .none] true l
      { c with es := { c.es with emission := .waitingGen } }) with
    freeList := (List.finRange 256).drop 2, waiting := [9, 3], arbiterDue := true }

/-- A tick at which line 3 waits for its scan frame, with its debounced state and candidate count. -/
def scanning (loop : Loop) (candidate : Nat) (f : Line → Line) : State :=
  { with3 fun l =>
      let c := f l
      { c with ls := { c.ls with loop := loop, candidate := candidate }, due := .scan ⟨40, 24, 3⟩ } with
    scanRequested := true, frameOpen := true }

/-- A scan frame with the same code and status for every line. -/
def scanFrame (marker code status : Octet) : Vector Octet 65 :=
  Vector.ofFn fun i => if i.val = 0 then marker else if i.val % 2 = 1 then code else status

/-- A segment of a pattern, as its octets. -/
def seg (level : Octet) (hi lo : Octet) : List Octet := [level, hi, lo]

/-- Playback of a pattern of two segments into line 3. -/
def playing (segment elapsed : Nat) : State :=
  { with3 inTest with pattern := some [⟨.make, 100⟩, ⟨.brk, 90⟩], play := some ⟨3, segment, elapsed⟩ }

/-- 32 equal samples. -/
def samples (x : Sample) : Vector Sample 32 := Vector.replicate 32 x

/-- A port whose event queue is full. -/
def fullPort : Port :=
  { queue := List.replicate 64 ⟨.seized, 3, 0, 0, 0, 0, 0⟩, lost := 255 }

/-- Reset, but for what has changed since: the counters of HI run. -/
def running (counter : BitVec 3) (ts : Timestamp) : State :=
  { State.reset with frameOpen := true, frameCounter := counter, timestamp := ts }

/-! ## Well-formedness: one ill-formed row for each check -/

theorem test_frame_with_bad_marker_is_ill_formed : (Instr.goodFrame (scanFrame 0x5D 0 0)).wellFormed = false := by decide

theorem test_frame_with_marker_is_well_formed : (Instr.goodFrame (scanFrame 0x5C 0 0)).wellFormed = true := by decide

theorem test_defined_code_is_no_unknown_command : (Instr.unknownCommand .a 0x10 0 []).wellFormed = false := by decide

theorem test_takeover_of_255_is_ill_formed : (Instr.takeover .a 255 []).wellFormed = false := by decide

theorem test_service_in_with_zero_is_ill_formed : (Instr.setServiceIn .a 3 [0]).wellFormed = false := by decide

theorem test_service_out_with_one_is_ill_formed : (Instr.setServiceOut .a 3 [1]).wellFormed = false := by decide

theorem test_256_data_octets_are_ill_formed :
    (Instr.nop .a 0 (List.replicate 256 0)).wellFormed = false
      ∧ (Instr.unknownCommand .a 0x07 0 (List.replicate 256 0)).wellFormed = false
      ∧ (Instr.takeover .a 3 (List.replicate 256 0)).wellFormed = false
      ∧ (Instr.setServiceIn .a 3 (List.replicate 256 0)).wellFormed = false
      ∧ (Instr.takeoverAll .a (List.replicate 256 0)).wellFormed = false := by decide +kernel

/-! ## Requests and rows -/

/-- Rows of each group of R173, spelled by the octets of their request. -/
theorem test_request_octets_spell_rows :
    rowOfRequest .a 0x00 9 [] = .nop .a 9 []
      ∧ rowOfRequest .b 0x03 0 [16] = .readEvents .b 0 [16]
      ∧ rowOfRequest .a 0x22 255 [] = .takeoverAll .a []
      ∧ rowOfRequest .a 0x22 31 [] = .takeover .a 31 []
      ∧ rowOfRequest .b 0x24 7 [0] = .setServiceOut .b 7 [0]
      ∧ rowOfRequest .b 0x24 7 [1] = .setServiceIn .b 7 [1]
      ∧ rowOfRequest .a 0x35 7 [] = .purge .a 7 []
      ∧ rowOfRequest .m 0x4F 0 [] = .partReset .m 0 []
      ∧ rowOfRequest .m 0x49 0 [] = .unknownCommand .m 0x49 0 [] := by decide

/-- Premises of the statements about requests, at the ends of their ranges. -/
theorem test_request_premises :
    (Instr.nop .a 9 []).wellFormed = true ∧ requestOfRow (.nop .a 9 []) = some (.a, 0x00, 9, [])
      ∧ (Instr.unknownCommand .b 0xFF 0 [1]).wellFormed = true
      ∧ requestOfRow (.unknownCommand .b 0xFF 0 [1]) = some (.b, 0xFF, 0, [1])
      ∧ (List.replicate 255 (0 : Octet)).length ≤ 255 ∧ 257 < (List.replicate 255 (0 : Octet)).length + 3
      ∧ (0x07 : Octet) ∉ definedCodes ∧ (0xFF : Octet) ∉ definedCodes := by decide +kernel

/-- The ends of the ranges in the statement about bad requests. -/
theorem test_bad_request_premises :
    requiredLength 0x00 = some 0 ∧ requiredLength 0x25 = some 1 ∧ requiredLength 0x10 = some 47
      ∧ requiredLength 0x11 = some 20 ∧ requiredLength 0x4F = some 0
      ∧ ([1] : List Octet).length ≠ 0 ∧ ([] : List Octet).length ≠ 1
      ∧ ¬ (0 % 3 = 0 ∧ 3 ≤ 0 ∧ 0 ≤ 48) ∧ ¬ (49 % 3 = 0 ∧ 3 ≤ 49 ∧ 49 ≤ 48) ∧ ¬ (51 % 3 = 0 ∧ 3 ≤ 51 ∧ 51 ≤ 48)
      ∧ (0x01 : Octet) ∈ lineCodes ∧ (0x48 : Octet) ∈ lineCodes ∧ 32 ≤ (32 : Octet).toNat
      ∧ 32 ≤ (254 : Octet).toNat ∧ ((254 : Octet) ≠ 255) ∧ (0x23 : Octet) ≠ 0x22 ∧ (0x23 : Octet) ≠ 0x45 := by
  decide

theorem test_bad_requests_are_answered :
    reply .a (run (.unknownCommand .a 0x07 40 [1, 2]) State.reset) = [1, 0]
      ∧ reply .a (run (.nop .a 0 [1]) State.reset) = [2, 0]
      ∧ reply .a (run (.readLine .a 32 []) State.reset) = [3, 0]
      ∧ reply .a (run (.testEnter .a 3 []) State.reset) = [4, 0]
      ∧ reply .a (run (.lineReset .a 3 []) State.reset) = [5, 0]
      ∧ reply .m (run (.testExit .m 3 []) State.reset) = [6, 0] := by decide +kernel

/-! ## Control frames -/

theorem test_receiver_premises :
    (State.reset.port .a).selectLow = false ∧ (State.reset.port .a).receiver = .idle
      ∧ ((run (.frameBegin .a) State.reset).port .a).selectLow = true
      ∧ ((run (.frameBegin .a) State.reset).port .a).receiver = .request
      ∧ (((run (.frameBegin .a) State.reset).port .a).request.push 0x00).complete = none
      ∧ ((⟨some 0x00, some 7, none, [], 0⟩ : RequestBuffer).push 0).complete = some ⟨0x00, 7, 0, []⟩
      ∧ ((run (.nop .a 0 []) State.reset).port .a).receiver = .response
      ∧ ((run (.nop .a 0 []) State.reset).port .a).response = some ⟨.ok, [0, 0], 0⟩ := by decide +kernel

/-- A NOP clocked octet by octet: three request octets, four response octets, then TRAILER (R158). -/
theorem test_nop_octet_by_octet :
    let s := [0x00, 0x00, 0x00].foldl (fun s o => run (.octetTime .b o) s) (run (.frameBegin .b) State.reset)
    let t := [0xAA, 0xAA, 0xAA, 0xAA].foldl (fun s o => run (.octetTime .b o) s) s
    reply .b s = [0, 2, 0, 0] ∧ (s.port .b).driven = some 0xFF
      ∧ ((run (.octetTime .b 0xAA) s).port .b).driven = some 0
      ∧ (t.port .b).receiver = .trailer ∧ ((run (.frameEnd .b) t).port .b).receiver = .idle := by decide +kernel

/-- A select that is low at power-on is ignored until it has risen (R158). -/
theorem test_select_low_at_power_on :
    let s := run .powerOnReset (run (.frameBegin .a) State.reset)
    (s.port .a).receiver = .idle ∧ (s.port .a).ignoreSelect = true
      ∧ (run (.octetTime .a 0) s) = s
      ∧ ((run (.frameEnd .a) s).port .a).ignoreSelect = false := by decide +kernel

/-- Of 81 data octets 80 are kept and all are counted (R159). -/
theorem test_only_80_data_octets_are_kept :
    let b := ([0x10, 5, 81] ++ List.replicate 80 1 ++ [2]).foldl RequestBuffer.push {}
    b.complete = some ⟨0x10, 5, 81, List.replicate 80 1⟩ := by decide +kernel

/-! ## Who may send -/

theorem test_permission_premises :
    (with3 inTest).boundaryFirst = with3 inTest
      ∧ ((with3 inTest).line 3).lat.service = .test
      ∧ ((with3 (inCall .dialling [] false)).line 3).lat.service ≠ .test
      ∧ ((with3 (inCall .dialling [] false)).line 3).lat.owner.port = some .a
      ∧ ((with3 (inCall .dialling [] false)).line 3).lat.owner.port ≠ some .b
      ∧ (0x30 : Octet) ∈ callCodes ∧ (0x35 : Octet) ∈ callCodes
      ∧ (7 : Octet).toNat < 8 ∧ (2 : Octet).toNat ≤ 2
      ∧ (State.reset.line 3).lat.owner.port ≠ some .a
      ∧ segmentsOfOctets (seg 1 0 1) = some [⟨.make, 1⟩] ∧ (seg 1 0 1).length = 3
      ∧ (0x40 : Octet) ∈ [(0x40 : Octet), 0x41, 0x43, 0x48] ∧ (31 : Octet).toNat < 32 := by decide +kernel

theorem test_permissions :
    (with3 (inCall .dialling [] false)).callPermission 3 .a = none
      ∧ (with3 (inCall .dialling [] false)).callPermission 3 .b = some .notOwner
      ∧ (with3 (inCall .dialling [] false)).callPermission 3 .m = some .wrongPort
      ∧ (with3 inTest).callPermission 3 .m = none ∧ (with3 inTest).callPermission 3 .a = some .wrongState
      ∧ (with3 (inCall .dialling [] false)).servicePermission 3 .m = none := by decide +kernel

/-! ## Reading and configuration -/

theorem test_reading_premises :
    8 ≤ (8 : Octet).toNat ∧ 64 ≤ (64 : Octet).toNat ∧ 1 ≤ (1 : Octet).toNat ∧ (16 : Octet).toNat ≤ 16
      ∧ (0 : Octet).toNat < 1 ∧ 16 < (17 : Octet).toNat
      ∧ (((State.reset.line 3).lat.service = .test ∨ (State.reset.line 3).lat.owner = .none) ∧ PortId.m = .m)
      ∧ ((with3 (inCall .idle [] false)).line 3).lat.owner.port = some .a := by decide +kernel

theorem test_nop_and_reads :
    reply .a (run (.readEvents .a 0 [16]) { State.reset with portA := fullPort }) =
        [0, 161, 255] ++ (List.replicate 16 [1, 3, 0, 0, 0, 0, 0, 0, 0, 0]).flatten
      ∧ ((run (.readEvents .a 0 [16]) { State.reset with portA := fullPort }).port .a).queue.length = 48
      ∧ reply .b (run (.readPool .b 0 []) twoWaiting) = [0, 11, 0, 254, 9, 3, 255, 255, 255, 255, 255, 255, 0]
      ∧ reply .b (run (.readPlan .b 63 []) State.reset) = [0, 20] ++ List.replicate 20 0
      ∧ reply .m (run (.peekQueue .m 3 []) onHold)
        = [0, 23, 3, 0, 5, 5, 0, 1, 0, 0, 0, 5, 5, 0, 1, 0, 0, 1, 5, 5, 0, 1, 0, 0, 2] := by decide +kernel

theorem test_read_line_after_reset :
    reply .a (run (.readLine .a 31 []) State.reset)
      = [0, 21, 0, 0, 0, 0, 0, 0, 0, 0, 0, 0, 6, 64, 0, 0, 0, 0, 0, 0, 0, 0, 0] := by decide +kernel

/-- READ_LINE from the event port clears the latch; from another port it does not (R8). -/
theorem test_read_line_and_the_latch :
    let s := with3 fun l => { inCall .idle [] false l with ls := { l.ls with faultLatch := true } }
    ((run (.readLine .a 3 []) s).line 3).ls.faultLatch = false
      ∧ ((run (.readLine .b 3 []) s).line 3).ls.faultLatch = true := by decide +kernel

/-- The default entry in the layout of R176. -/
theorem test_default_profile_octets :
    Profile.default.octets.map BitVec.toNat
      = [0, 40, 0, 24, 0, 3, 0, 60, 0, 20, 0, 110, 0, 15, 0, 250, 3, 132, 0, 100, 0, 12, 0, 180, 0, 50, 0, 75, 0, 0, 16,
        0, 0, 0, 0, 31, 64, 0, 70, 0, 70, 27, 88, 34, 96, 0, 1] := by decide +kernel

/-- An entry whose fields all differ from the defaults, read back from its octets. -/
def otherEntry : Profile :=
  { makeThreshold := 255, breakThreshold := 254, settleCount := 8, seizeTime := 500, breakMin := 80, breakMax := 200
    makeMin := 60, flashMin := 1500, flashMax := 2000, periodInitial := 160, interdigitFactor := 24
    interdigitMin := 1000, ratioLow := 70, ratioHigh := 90, numbering := .offset, queueLimit := 32, planRoot := 63
    autoProceed := 10000, endTimeout := 30000, toneOn := 200, toneOff := 500, levelLow := 32767, levelHigh := 32766
    flashTone := true, digitReports := false }

theorem test_entries_round_trip :
    Profile.default.valid = true ∧ otherEntry.valid = true ∧ otherEntry.octets.length = 47
      ∧ Profile.ofOctets otherEntry.octets = some otherEntry
      ∧ Profile.ofOctets Profile.default.octets = some Profile.default := by decide +kernel

theorem test_plan_node_round_trips :
    let node : PlanNode :=
      #v[.cont 1, .complete, .hold 63, .reject, .cont 0, .cont 63, .hold 0, .complete, .reject, .cont 5]
    (planNodeOctets node).map BitVec.toNat = [0, 1, 1, 0, 2, 63, 3, 0, 0, 0, 0, 63, 2, 0, 1, 0, 3, 0, 0, 5]
      ∧ planNodeOfOctets (planNodeOctets node) = some node := by decide +kernel

theorem test_write_premises :
    Profile.default.octets.length = 47 ∧ Profile.ofOctets Profile.default.octets = some Profile.default
      ∧ Profile.default.ordered = true ∧ ({ Profile.default with breakThreshold := 40 } : Profile).ordered = false
      ∧ Profile.ofOctets { Profile.default with breakThreshold := 40 }.octets
        = some { Profile.default with breakThreshold := 40 }
      ∧ Profile.ofOctets (List.replicate 28 1 ++ [3] ++ List.replicate 18 1) = none
      ∧ Profile.ofOctets (List.replicate 28 1 ++ [2] ++ List.replicate 16 1 ++ [2, 1]) = none
      ∧ planNodeOfOctets (List.replicate 20 0) = some (Vector.replicate 10 (.cont 0))
      ∧ planNodeOfOctets ([4, 0] ++ List.replicate 18 0) = none ∧ planNodeOfOctets ([0, 64] ++ List.replicate 18 0) = none
      ∧ planNodeOfOctets ([1, 64] ++ List.replicate 18 0) ≠ none := by decide +kernel

/-- Data at each code's bound and at the bounds of the fields: read where the codes are defined, refused beyond (R59, R176). -/
theorem test_entry_data_premises :
    let d (hi lo c28 c45 c46 : Octet) : List Octet :=
      (List.replicate 14 [hi, lo]).flatten ++ [c28] ++ (List.replicate 8 [hi, lo]).flatten ++ [c45, c46]
    (d 0 0 2 1 1).length = 47 ∧ (d 0 0 2 1 1).getD 28 0 = 2 ∧ Numbering.offset.code = 2
      ∧ ((Profile.ofOctets (d 0 0 2 1 1)).map fun e => [e.makeThreshold, e.breakThreshold, e.ratioHigh, e.levelHigh])
        = some [1, 0, 55, 0]
      ∧ ((Profile.ofOctets (d 255 255 0 0 0)).map fun e => [e.makeThreshold, e.breakThreshold, e.ratioHigh, e.levelHigh])
        = some [255, 254, 90, 32767]
      ∧ Profile.ofOctets (d 0 0 3 1 1) = none ∧ Profile.ofOctets (d 0 0 2 2 1) = none
      ∧ Profile.ofOctets (d 0 0 2 1 2) = none := by decide +kernel

/-- A branch of each kind at the bounds of its target, with the node that its octets spell, and one past each bound (R90). -/
theorem test_plan_data_premises :
    let d (kind target : Octet) : List Octet := (List.replicate 10 [kind, target]).flatten
    (d 0 63).length = 20 ∧ (d 0 63).getD (2 * 9) 0 = 0 ∧ (d 0 63).getD (2 * 9 + 1) 0 = 63
      ∧ planNodeOfOctets (d 0 63) = some (Vector.replicate 10 (.cont 63))
      ∧ planNodeOfOctets (d 2 63) = some (Vector.replicate 10 (.hold 63))
      ∧ planNodeOfOctets (d 1 64) = some (Vector.replicate 10 .complete)
      ∧ planNodeOfOctets (d 3 255) = some (Vector.replicate 10 .reject)
      ∧ planNodeOfOctets (d 4 0) = none ∧ planNodeOfOctets (d 0 64) = none ∧ planNodeOfOctets (d 2 64) = none := by
  decide +kernel

/-- Values outside their ranges are clamped, and the stored entry is returned (R59, R60). -/
theorem test_write_profile_clamps :
    let d := be16 300 ++ be16 300 ++ Profile.default.octets.drop 4
    reply .a (run (.writeProfile .a 5 d) State.reset) = [0, 47, 0, 255, 0, 254] ++ (Profile.default.octets.drop 4).map BitVec.toNat
      ∧ (run (.writeProfile .a 5 d) State.reset).profiles[5].breakThreshold = 254
      ∧ reply .a (run (.writeProfile .a 8 d) State.reset) = [3, 0] := by decide +kernel

theorem test_write_plan :
    (run (.writePlan .b 10 ([3, 9] ++ List.replicate 18 0)) State.reset).plan[10][0] = .reject
      ∧ reply .b (run (.writePlan .b 10 ([4, 9] ++ List.replicate 18 0)) State.reset) = [3, 20] ++ List.replicate 20 0 := by
  decide +kernel

theorem test_assign_profile :
    let s := { State.reset with profiles := State.reset.profiles.set 7 otherEntry }
    ((run (.assignProfile .m 3 [7]) s).line 3).pd.period = 2560
      ∧ reply .m (run (.assignProfile .m 3 [8]) s) = [3, 0]
      ∧ reply .m (run (.assignProfile .m 3 [7]) (with3 (inCall .dialling [] false))) = [6, 0] := by decide +kernel

/-! ## Ownership and service -/

theorem test_ownership_premises :
    Owner.a.port = some .a ∧ Owner.b.port = some .b ∧ Owner.none.port = none
      ∧ (State.reset.line 3).lat.owner = .none
      ∧ ((with3 (inCall .idle [] false)).line 3).lat.owner = .a
      ∧ ((with3 (inCall .idle [] false)).line 3).lat.owner ≠ .b
      ∧ (0 : Octet).toNat = Owner.none.code ∧ (2 : Octet).toNat = Owner.b.code ∧ 2 < (3 : Octet).toNat
      ∧ 1 < (2 : Octet).toNat ∧ (State.reset.line 3).lat.service = .outOfService
      ∧ ((with3 (inCall .idle [] false)).line 3).lat.service = .inService := by decide +kernel

theorem test_claim_and_relinquish :
    reply .b (run (.claim .b 3 []) State.reset) = [0, 1, 1]
      ∧ events .b (run (.claim .b 3 []) State.reset) = [(.snapshot, [3, 1, 0, 0, 0])]
      ∧ reply .b (run (.claim .b 3 []) (with3 (inCall .idle [] false))) = [8, 1, 0]
      ∧ reply .a (run (.relinquish .a 3 []) (with3 (inCall .idle [] false))) = [0, 1, 1]
      ∧ events .a (run (.relinquish .a 3 []) (with3 (inCall .idle [] false))) = [(.ownerChange, [3, 1, 0, 0, 0])] := by
  decide +kernel

theorem test_takeover :
    let s := (with3 (inCall .dialling [] true)).updLine 20 (inCall .conversation [rec5 0 .none] false)
    reply .b (run (.takeover .b 3 []) s) = [0, 1, 1] ∧ reply .a (run (.takeover .a 3 []) s) = [0, 1, 0]
      ∧ reply .b (run (.takeoverAll .b []) s) = [0, 1, 2]
      ∧ events .b (run (.takeoverAll .b []) s) = [(.snapshot, [3, 1, 0, 9, 0]), (.snapshot, [20, 1, 0, 3, 1])]
      ∧ events .a (run (.takeoverAll .b []) s) = [(.ownerChange, [3, 1, 0, 2, 1]), (.ownerChange, [20, 1, 0, 2, 1])] := by
  decide +kernel

theorem test_assign :
    reply .m (run (.assign .m 3 [2]) (with3 (inCall .idle [] false))) = [0, 1, 1]
      ∧ ((run (.assign .m 3 [2]) (with3 (inCall .idle [] false))).line 3).lat.owner = .b
      ∧ reply .m (run (.assign .m 3 [3]) State.reset) = [3, 0] := by decide +kernel

theorem test_set_service :
    let s := with3 (inCall .dialling [rec5 0 .none] true)
    ((run (.setServiceIn .m 3 [1]) State.reset).line 3).lat.service = .inService
      ∧ ((run (.setServiceOut .a 3 [0]) s).line 3).lat.service = .outOfService
      ∧ ((run (.setServiceOut .a 3 [0]) s).line 3).npw.stage = .idle
      ∧ reply .a (run (.setServiceOut .a 3 [0]) s) = [0, 1, 1] := by decide +kernel

/-! ## Call commands -/

theorem test_call_command_premises :
    onHold.boundaryFirst = onHold ∧ onHold.callPermission 3 .a = none
      ∧ (onHold.line 3).npw.stage = .dialling ∧ (onHold.line 3).npw.held = true
      ∧ (onHold.line 3).ds.queue = [rec5 0 .none] ++ rec5 1 .held :: [rec5 2 .unwalked]
      ∧ (∀ r ∈ [rec5 0 .none], r.mark ≠ .held)
      ∧ (with3 (inCall .idle [] false)).callPermission 3 .a = none
      ∧ (with3 (inCall .conversation [] false)).callPermission 3 .a = none
      ∧ (with3 (inCall .rejected [] false)).callPermission 3 .a = none
      ∧ ((with3 (inCall .dialling [] true)).line 3).es.gate = true
      ∧ ((with3 (inCall .dialling [] false)).line 3).es.gate = false
      ∧ bursting.callPermission 3 .a = none ∧ (bursting.line 3).ds.inEmission = true
      ∧ (bursting.line 3).ds.queue = rec5 0 .none :: [rec5 1 .none]
      ∧ (onHold.line 3).ds.inEmission = false := by decide +kernel

/-- Premises on a hold whose queue has no UNWALKED, or no HELD, record. -/
theorem test_hold_without_records :
    let s := onHold.updLine 3 fun l => { l with ds := { l.ds with queue := [rec5 1 .held] } }
    let t := onHold.updLine 3 fun l => { l with ds := { l.ds with queue := [rec5 2 .unwalked] } }
    (∀ r ∈ (s.line 3).ds.queue, r.mark ≠ .unwalked) ∧ (∀ r ∈ (t.line 3).ds.queue, r.mark ≠ .held)
      ∧ s.callPermission 3 .a = none ∧ t.callPermission 3 .a = none
      ∧ (s.line 3).npw.held = true ∧ (t.line 3).npw.held = true
      ∧ reply .a (run (.planRelease .a 3 []) s) = [0, 1, 0] ∧ reply .a (run (.planDiscard .a 3 []) t) = [0, 1, 1] := by
  decide +kernel

theorem test_proceed :
    let s := with3 (inCall .conversation [rec5 0 .none] false)
    reply .a (run (.proceed .a 3 []) s) = [0, 1, 0]
      ∧ ((run (.proceed .a 3 []) s).line 3).es.emission = .waitingGen
      ∧ (run (.proceed .a 3 []) s).joining = [3]
      ∧ reply .a (run (.proceed .a 3 []) (with3 (inCall .idle [] false))) = [6, 0] := by decide +kernel

/-- Premises of the request conditions, met and not, in each emission state. -/
theorem test_request_condition_premises :
    let good := with3 (inCall .conversation [rec5 0 .none] true)
    let held := with3 (inCall .dialling [rec5 0 .held] true)
    let waiting (s : State) := s.updLine 3 fun l => { l with es := { l.es with emission := .waitingGen } }
    (good.line 3).requests = true ∧ (good.line 3).es.emission = .idle
      ∧ (held.line 3).requests = false ∧ (held.line 3).es.emission = .idle
      ∧ ((waiting good).line 3).requests = true ∧ ((waiting held).line 3).requests = false
      ∧ (bursting.line 3).es.emission = .toneOn := by decide +kernel

/-- A joiner stands in line-number order, at the ends and between; the list before was rising (R112). -/
theorem test_insert_line :
    insertLine 5 [] = [5] ∧ insertLine 5 [3, 9] = [3, 5, 9] ∧ insertLine 0 [3, 9] = [0, 3, 9]
      ∧ insertLine 31 [3, 9] = [3, 9, 31] ∧ ([3, 9] : List LineId).Pairwise (· < ·) ∧ (5 : LineId) ∉ [3, 9] := by decide

theorem test_cut_through :
    reply .a (run (.cutThrough .a 3 []) onHold) = [0, 1, 1]
      ∧ ((run (.cutThrough .a 3 []) onHold).line 3).npw.stage = .conversation
      ∧ ((run (.cutThrough .a 3 []) onHold).line 3).ds.queue.map DigitRecord.mark = [.none, .none, .none]
      ∧ reply .a (run (.cutThrough .a 3 []) (with3 (inCall .rejected [] false))) = [0, 1, 2]
      ∧ reply .a (run (.cutThrough .a 3 []) (with3 (inCall .conversation [] false))) = [0, 1, 3] := by decide +kernel

/-- The re-walk goes on from the saved node and counts the record (R97). -/
theorem test_plan_release :
    reply .a (run (.planRelease .a 3 []) onHold) = [0, 1, 1]
      ∧ ((run (.planRelease .a 3 []) onHold).line 3).ds.queue.map DigitRecord.mark = [.none, .none, .none]
      ∧ ((run (.planRelease .a 3 []) onHold).line 3).npw.walked = 3
      ∧ ((run (.planRelease .a 3 []) onHold).line 3).npw.node = 0 := by decide +kernel

/-- Premises of the re-walk of one record: at the digit limit, below it, each kind of branch, going on and stopping. -/
theorem test_rewalk_premises :
    let plan := (State.reset.plan.set 1 (Vector.replicate 10 .complete)).set 2 (Vector.replicate 10 (.hold 7))
    let at_ (k : Nat) (node : Fin 64) : State :=
      { onHold.updLine 3 fun l => { l with npw := { l.npw with held := false, node := node, walked := k } } with
        plan := plan.set 4 (Vector.replicate 10 .reject) }
    (rec5 2 .unwalked).symbol = .digit 5
      ∧ 24 ≤ ((at_ 24 0).line 3).npw.walked ∧ ((at_ 23 0).line 3).npw.walked < 24
      ∧ ((at_ 23 0).plan[((at_ 23 0).line 3).npw.node])[(5 : Fin 10)] = .cont 0
      ∧ ((at_ 23 1).plan[((at_ 23 1).line 3).npw.node])[(5 : Fin 10)] = .complete
      ∧ ((at_ 23 2).plan[((at_ 23 2).line 3).npw.node])[(5 : Fin 10)] = .hold 7
      ∧ ((at_ 23 4).plan[((at_ 23 4).line 3).npw.node])[(5 : Fin 10)] = .reject
      ∧ (((at_ 23 1).rewalkOne 3 (rec5 2 .unwalked) 5).line 3).npw.completePending = true
      ∧ (((at_ 23 2).rewalkOne 3 (rec5 2 .unwalked) 5).line 3).npw.held = true
      ∧ (((at_ 23 4).rewalkOne 3 (rec5 2 .unwalked) 5).line 3).npw.stage ≠ .dialling
      ∧ (((at_ 23 0).rewalkOne 3 (rec5 2 .unwalked) 5).line 3).npw.held = false
      ∧ (((at_ 23 0).rewalkOne 3 (rec5 2 .unwalked) 5).line 3).npw.completePending = false
      ∧ (((at_ 23 0).rewalkOne 3 (rec5 2 .unwalked) 5).line 3).npw.stage = .dialling := by decide +kernel

theorem test_plan_discard :
    reply .a (run (.planDiscard .a 3 []) onHold) = [0, 1, 2]
      ∧ ((run (.planDiscard .a 3 []) onHold).line 3).npw.stage = .rejected
      ∧ ((run (.planDiscard .a 3 []) onHold).line 3).ds.queue = [rec5 0 .none]
      ∧ events .a (run (.planDiscard .a 3 []) onHold) = [(.planReject, [3, 0, 0, 3, 2])] := by decide +kernel

theorem test_flash_ack :
    let s := with3 fun l => { inCall .conversation [] false l with pd := { l.pd with state := .make, flashMask := true } }
    reply .a (run (.flashAck .a 3 []) s) = [0, 1, 1] ∧ ((run (.flashAck .a 3 []) s).line 3).pd.flashMask = false := by
  decide +kernel

theorem test_purge :
    reply .a (run (.purge .a 3 []) bursting) = [0, 1, 1]
      ∧ ((run (.purge .a 3 []) bursting).line 3).ds.queue = [rec5 0 .none]
      ∧ reply .a (run (.purge .a 3 []) onHold) = [0, 1, 3] := by decide +kernel

theorem test_line_reset :
    reply .a (run (.lineReset .a 3 []) bursting) = [0, 1, 2]
      ∧ ((run (.lineReset .a 3 []) bursting).line 3).npw.stage = .idle
      ∧ ((run (.lineReset .a 3 []) bursting).gen 2).holder = none
      ∧ (run (.lineReset .a 3 []) bursting).freeList.length = 256
      ∧ events .a (run (.lineReset .a 3 []) bursting) = [] := by decide +kernel

/-! ## Maintenance -/

theorem test_test_line_premises :
    (State.reset.line 3).lat.service ≠ .test ∧ (State.reset.line 3).npw.stage = .idle
      ∧ ((with3 inTest).line 3).lat.service = .test
      ∧ ((with3 (inCall .dialling [] false)).line 3).npw.stage ≠ .idle := by decide +kernel

theorem test_test_enter_and_exit :
    let s := run (.testEnter .m 3 []) (with3 (inCall .idle [] false))
    reply .m s = [0, 1, 1] ∧ (s.line 3).lat.service = .test ∧ (s.line 3).mu.testLevel = some .brk
      ∧ reply .m (run (.testExit .m 3 []) s) = [0, 2, 0, 1]
      ∧ ((run (.testExit .m 3 []) s).line 3).lat.service = .inService := by decide +kernel

theorem test_pattern_premises :
    segmentsOfOctets (seg 2 0 1) = none ∧ segmentsOfOctets (seg 0 0 0) = none ∧ segmentsOfOctets (seg 0 16 0) = none
      ∧ segmentsOfOctets (seg 0 15 255 ++ seg 1 0 1) = some [⟨.brk, 4095⟩, ⟨.make, 1⟩]
      ∧ (playing 0 0).play.isSome = true ∧ (with3 inTest).play = none ∧ (with3 inTest).pattern = none
      ∧ { with3 inTest with pattern := some [⟨.brk, 4095⟩] }.pattern = some [⟨.brk, 4095⟩] := by decide +kernel

theorem test_pattern_commands :
    reply .m (run (.loadPattern .m 0 (seg 0 15 255)) State.reset) = [0, 1, 1]
      ∧ reply .m (run (.loadPattern .m 0 (seg 0 15 255)) (playing 0 0)) = [7, 0]
      ∧ reply .m (run (.startPattern .m 3 []) { with3 inTest with pattern := some [⟨.brk, 4095⟩, ⟨.make, 1⟩] })
        = [0, 2, 16, 0]
      ∧ reply .m (run (.startPattern .m 3 []) (with3 inTest)) = [6, 0]
      ∧ reply .m (run (.abortPattern .m 0 []) (playing 1 3)) = [0, 1, 1]
      ∧ (run (.abortPattern .m 0 []) (playing 1 3)).play = none := by decide +kernel

theorem test_pattern_segments :
    (playing 0 100).play = some ⟨3, 0, 100⟩ ∧ (playing 1 90).play = some ⟨3, 1, 90⟩
      ∧ (run .patternSegmentAdvance (playing 0 100)).play = some ⟨3, 1, 0⟩
      ∧ (run .patternSegmentAdvance (playing 0 99)).play = some ⟨3, 0, 99⟩
      ∧ (run .patternDone (playing 1 90)).play = none
      ∧ events .m (run .patternDone (playing 1 90)) = [(.patternDone, [3, 0, 0, 2, 0])]
      ∧ (run .patternDone (playing 1 89)).play = some ⟨3, 1, 89⟩ := by decide +kernel

/-- Without playback, without a pattern, and past the last segment neither row acts and nothing is fed; else the level is. -/
theorem test_pattern_feeding :
    run .patternSegmentAdvance State.reset = State.reset ∧ run .patternDone State.reset = State.reset
      ∧ State.reset.feedPattern = State.reset ∧ (playing 2 0).feedPattern = playing 2 0
      ∧ run .patternDone (playing 2 0) = playing 2 0
      ∧ ({ playing 0 0 with pattern := none } : State).play = some ⟨3, 0, 0⟩
      ∧ ([⟨.make, 100⟩, ⟨.brk, 90⟩] : List Segment).length ≤ 2
      ∧ (((playing 0 0).feedPattern).line 3).mu.testLevel = some .make
      ∧ ((playing 0 0).feedPattern).play = some ⟨3, 0, 1⟩ := by decide +kernel

theorem test_watch_check_and_statistics :
    let s := { with3 (fun l => { l with mu := { l.mu with stats := { pulses := 258, flashes := 1 } } }) with
      check := some ⟨3, .digit 5, 560, 17000, 0⟩, watched := some 3, ring := [⟨.brk, .pulse, 60, 2475⟩] }
    reply .m (run (.watch .m 255 []) s) = [0, 1, 3] ∧ (run (.watch .m 255 []) s).watched = none
      ∧ reply .m (run (.watch .m 31 []) State.reset) = [0, 1, 255]
      ∧ reply .m (run (.readWatch .m 0 []) s) = [0, 10, 3, 1, 0, 1, 0, 60, 0, 0, 9, 171]
      ∧ reply .m (run (.readCheck .m 0 []) s) = [0, 9, 1, 3, 5, 2, 48, 66, 104, 0, 0]
      ∧ reply .m (run (.readStats .m 3 []) s) = [0, 14, 1, 2, 0, 0, 0, 0, 0, 0, 0, 0, 0, 0, 0, 1]
      ∧ ((run (.readStats .m 3 []) s).line 3).mu.stats.pulses = 0
      ∧ State.reset.check = none ∧ s.check = some ⟨3, .digit 5, 560, 17000, 0⟩ := by decide +kernel

/-- An entry for the watched line goes to the end of the ring, from a full ring the oldest goes; other lines store none. -/
theorem test_watch_ring :
    let s (k : Nat) : State := { State.reset with watched := some 3, ring := List.replicate k ⟨.brk, .pulse, 60, 9⟩ }
    (s 15).ring.length < 16 ∧ 16 ≤ (s 16).ring.length
      ∧ ((s 15).watchEntry 3 .make 4096 .glitch).ring = List.replicate 15 ⟨.brk, .pulse, 60, 9⟩ ++ [⟨.make, .glitch, 4095, 0⟩]
      ∧ ((s 16).watchEntry 3 .make 7 .glitch).ring = List.replicate 15 ⟨.brk, .pulse, 60, 9⟩ ++ [⟨.make, .glitch, 7, 0⟩]
      ∧ (s 16).watchEntry 4 .make 7 .glitch = s 16 := by decide +kernel

theorem test_part_reset :
    let s := { bursting with timestamp := 0x01020304, frameOpen := true, frameCounter := 5 }
    reply .m (run (.partReset .m 0 []) s) = [0, 4, 1, 2, 3, 4]
      ∧ (run (.partReset .m 0 []) s).line 3 = Line.afterReset Profile.default
      ∧ (run (.partReset .m 0 []) s).frameCounter = 5 ∧ ((run (.partReset .m 0 []) s).gen 2).holder = none := by
  decide +kernel

/-! ## Events and the store -/

theorem test_route :
    State.reset.route 3 = [.m] ∧ (with3 inTest).route 3 = [.m]
      ∧ (with3 (inCall .idle [] false)).route 3 = [.a]
      ∧ ({ with3 (inCall .idle [] false) with watched := some 3 } : State).route 3 = [.a, .m]
      ∧ fullPort.queue.length = 64 ∧ (fullPort.accept ⟨.seized, 3, 0, 0, 0, 0, 0⟩) = fullPort
      ∧ (({} : Port).accept ⟨.seized, 3, 0, 0, 0, 0, 0⟩).queue.length = 1 := by decide +kernel

/-- The attention output at its bounds: by a record, by a lost count alone, after READ_EVENTS with and without a rest. -/
theorem test_attention :
    ({} : Port).attention = false ∧ ({ lost := 1 } : Port).attention = true ∧ fullPort.attention = true
      ∧ (({} : Port).accept ⟨.seized, 3, 0, 0, 0, 0, 0⟩).attention = true
      ∧ ((run (.readEvents .a 0 [16]) { State.reset with portA := fullPort }).port .a).attention = true
      ∧ ((run (.readEvents .a 0 [1]) { State.reset with portA := { fullPort with queue := fullPort.queue.take 1 } }).port
          .a).attention = false := by decide +kernel

theorem test_offer_premises :
    let full := with3 (inCall .dialling (List.replicate 16 (rec5 0 .none)) false)
    (full.snapshot 3).queueLimit ≤ (full.line 3).ds.queue.length
      ∧ (onHold.line 3).ds.queue.length < (onHold.snapshot 3).queueLimit
      ∧ ({ onHold with freeList := [] } : State).freeList = [] ∧ onHold.freeList = 0 :: (List.finRange 256).tail
      ∧ (full.offer 3 ⟨.digit 5, 5, {}, 1, 0, .none⟩).1 = some .queueFull
      ∧ (({ onHold with freeList := [] } : State).offer 3 ⟨.digit 5, 5, {}, 1, 0, .none⟩).1 = some .storeFull
      ∧ (onHold.offer 3 ⟨.digit 5, 5, {}, 1, 0, .none⟩).1 = none := by decide +kernel

/-! ## The scan bus -/

theorem test_scan_premises :
    (scanning .closed 2 (inCall .dialling [] false)).scanRequested = true
      ∧ (scanFrame 0x5C 10 0)[0] = 0x5C ∧ (scanFrame 0x5D 10 0)[0] ≠ 0x5C
      ∧ ((scanning .closed 2 (inCall .dialling [] false)).line 3).due = .scan ⟨40, 24, 3⟩
      ∧ (State.reset.line 3).due = .nothing ∧ State.reset.scanRequested = false
      ∧ ({ State.reset with missCount := 8 } : State).missCount = 8 ∧ State.reset.scanLoss = false := by decide +kernel

/-- The third OPEN sample makes the change due; a middle code counts as the debounced state; a fault freezes (R9 to R11). -/
theorem test_good_frame :
    let s := scanning .closed 2 (inCall .dialling [] false)
    let open3 := run (.goodFrame (scanFrame 0x5C 10 0)) s
    (open3.line 3).due = .change ∧ (open3.line 3).ls.candidate = 3 ∧ (open3.line 3).ls.loop = .closed
      ∧ ((run (.goodFrame (scanFrame 0x5C 31 0)) s).line 3).ls.candidate = 0
      ∧ ((run (.goodFrame (scanFrame 0x5C 24 0)) s).line 3).ls.candidate = 3
      ∧ ((run (.goodFrame (scanFrame 0x5C 40 0)) s).line 3).ls.candidate = 0
      ∧ ((run (.goodFrame (scanFrame 0x5C 10 2)) s).line 3).ls = { loop := .closed, candidate := 2, faultKind := .groundFault, faultLatch := true }
      ∧ events .a (run (.goodFrame (scanFrame 0x5C 10 2)) s) = [(.lineFault, [3, 0, 0, 2, 0])] := by decide +kernel

theorem test_missed_frames :
    let s := { scanning .closed 2 (inCall .dialling [] false) with missCount := 7 }
    (run .missedFrame s).missCount = 8 ∧ ((run .missedFrame s).line 3).due = .nothing
      ∧ (run (.goodFrame (scanFrame 0x5D 0 0)) s).missCount = 8
      ∧ events .b (run .scanLoss (run .missedFrame s)) = [(.scanLoss, [255, 0, 0, 8, 0])]
      ∧ (run .scanLoss s) = s
      ∧ events .m (run (.goodFrame (scanFrame 0x5C 0 0)) { s with missCount := 10, scanLoss := true })
        = [(.scanRestored, [255, 0, 0, 10, 0])] := by decide +kernel

theorem test_debounced_change :
    let s := with3 fun l => { inCall .dialling [] false l with ls := { l.ls with loop := .closed, candidate := 3 }, due := .change }
    (s.line 3).due = .change ∧ ((run (.debouncedStateChange 3) s).line 3).ls.loop = .opened
      ∧ ((run (.debouncedStateChange 3) s).line 3).pd.state = .brk
      ∧ run (.debouncedStateChange 4) s = s := by decide +kernel

/-- A change that is due outlasts a line reset, which the sampler's work follows (R11, R15), and is made before TEST_EXIT
(R13). -/
theorem test_due_change_outlasts_resets :
    let s := run (.goodFrame (scanFrame 0x5C 10 0)) (scanning .closed 2 (inCall .dialling [] false))
    let r := run (.lineReset .a 3 []) s
    let x := run (.testExit .m 3 []) (s.updLine 3 inTest)
    (s.line 3).due = .change ∧ (r.line 3).due = .change ∧ (r.line 3).ls.loop = .closed
      ∧ ((run (.debouncedStateChange 3) r).line 3).ls = { loop := .opened, candidate := 0, faultKind := .none, faultLatch := false }
      ∧ (x.line 3).ls.loop = .opened ∧ (x.line 3).ls.candidate = 0 ∧ (x.line 3).due = .nothing
      ∧ (x.line 3).pd.state = .loopOpen := by decide +kernel

/-- The sample of a line in TEST at a tick, in stage IDLE and in a call; a line not in TEST takes none (R6, R13). -/
theorem test_sampling_in_test :
    let s (candidate : Nat) := with3 fun l =>
      let c := inTest l
      { c with ls := { c.ls with candidate := candidate }, mu := { c.mu with testLevel := some .make } }
    let called := (s 2).updLine 3 fun l => { l with npw := { l.npw with stage := .dialling } }
    ((s 2).line 3).lat.service = .test ∧ ((s 2).line 3).npw.stage = .idle ∧ (called.line 3).npw.stage ≠ .idle
      ∧ (((s 2).sampleTestLine 3).line 3).due = .change ∧ (((s 1).sampleTestLine 3).line 3).ls.candidate = 2
      ∧ ((called.sampleTestLine 3).line 3).due = .change
      ∧ (((with3 inTest).sampleTestLine 3).line 3).ls.candidate = 0
      ∧ (with3 (inCall .idle [] false)).sampleTestLine 3 = with3 (inCall .idle [] false) := by decide +kernel

/-- A scan frame outstanding when a tick closes is missed, and the eighth in a row makes the scan loss (R1, R3). -/
theorem test_close_tick :
    let s (k : Nat) := { scanning .closed 2 (inCall .dialling [] false) with missCount := k }
    State.reset.closeTick = State.reset ∧ (s 7).closeTick.missCount = 8 ∧ (s 7).closeTick.scanLoss = true
      ∧ (s 6).closeTick.scanLoss = false ∧ run .scanLoss (run .missedFrame (s 7)) = (s 7).closeTick := by decide +kernel

/-! ## The decoder -/

/-- Line 3 with this loop state in this decoder state. -/
def handed (loop : Loop) (state : DecoderState) (timer b : Nat) : State :=
  with3 fun l =>
    let c := inCall .dialling [] false l
    { c with
      ls := { c.ls with loop := loop }
      pd := { c.pd with state := state, seizeTimer := timer, breakTimer := timer, makeTimer := timer, b := b } }

/-- Premises of each clause of the statement about the hand, at the ends of the ranges. -/
theorem test_hand_premises :
    (State.reset.line 3).lat.service = .outOfService
      ∧ ((handed .opened .brk 900 0).line 3).lat.service ≠ .outOfService
      ∧ ((handed .opened .brk 900 0).line 3).pd.state = .brk ∧ ((handed .opened .brk 900 0).line 3).ls.loop = .opened
      ∧ ((handed .opened .brk 900 0).snapshot 3).flashMax + 1 ≤ min 65535 (900 + 1)
      ∧ min 65535 (899 + 1) < ((handed .closed .brk 899 0).snapshot 3).flashMax + 1
      ∧ min 65535 (14 + 1) ≤ ((handed .opened .makePending 14 60).snapshot 3).makeMin := by decide +kernel

theorem test_hand :
    (((handed .closed .loopOpen 0 0).hand 3).line 3).pd.state = .seizePending
      ∧ (((handed .opened .loopOpen 0 0).hand 3).line 3).pd.state = .loopOpen
      ∧ (((handed .opened .seizePending 59 0).hand 3).line 3).pd.state = .loopOpen
      ∧ (((handed .closed .seizePending 59 0).hand 3).line 3).due = .limits
      ∧ (((handed .opened .make 1399 0).hand 3).line 3).pd.mPrev = 1400
      ∧ (((handed .closed .make 299 0).hand 3).line 3).due = .limits
      ∧ (((handed .closed .brk 900 0).hand 3).line 3).due = .release
      ∧ (((handed .closed .brk 59 0).hand 3).line 3).pd.b = 60
      ∧ (((handed .closed .makePending 14 60).hand 3).line 3).due = .limits
      ∧ (((handed .opened .makePending 2 30).hand 3).line 3).pd.breakTimer = 33
      ∧ (((handed .opened .makePending 14 900).hand 3).line 3).due = .release := by decide +kernel

/-- Line 3 out of a call, IN_SERVICE under A, with the seize timer at `t`. -/
def seizing (t : Nat) : State :=
  with3 fun l =>
    let c := inCall .idle [] false l
    { c with pd := { c.pd with state := .seizePending, seizeTimer := t }, due := .limits }

theorem test_seizure :
    (((seizing 60).line 3).due = .limits ∧ ((seizing 60).line 3).pd.state = .seizePending
        ∧ (seizing 60).profiles[((seizing 60).line 3).pt.profileIndex].seizeTime ≤ ((seizing 60).line 3).pd.seizeTimer)
      ∧ ((run (.seizure 3) (seizing 60)).line 3).npw.stage = .dialling
      ∧ ((run (.seizure 3) (seizing 60)).line 3).pd.makeTimer = 60
      ∧ events .a (run (.seizure 3) (seizing 60)) = [(.seized, [3, 0, 0, 0, 0])]
      ∧ run (.seizure 3) (seizing 59) = seizing 59 := by decide +kernel

/-- Premises of the classes of break, at the ends of their ranges. -/
theorem test_confirmation_premises :
    ((confirming 20 false .dialling).line 3).due = .limits
      ∧ ((confirming 20 false .dialling).line 3).pd.state = .makePending
      ∧ ((confirming 20 false .dialling).snapshot 3).makeMin ≤ ((confirming 20 false .dialling).line 3).pd.makeTimer
      ∧ classifyBreak Profile.default 19 = .glitch ∧ classifyBreak Profile.default 20 = .pulse
      ∧ classifyBreak Profile.default 110 = .pulse ∧ classifyBreak Profile.default 111 = .breakError
      ∧ classifyBreak Profile.default 249 = .breakError ∧ classifyBreak Profile.default 250 = .flash
      ∧ classifyBreak Profile.default 900 = .flash
      ∧ ((confirming 250 true .conversation).line 3).pd.flashMask = false
      ∧ (((confirming 250 true .conversation).updPd 3 fun d => { d with flashMask := true }).line 3).pd.flashMask = true := by
  decide +kernel

/-- The pulses of sections 3.4 and 3.6: a first pulse, a nominal pair, a fast pair, a pair that sets RATIO_LOW. -/
theorem test_pulses :
    let d (s : State) := ((run (.makeConfirmed 3) s).line 3).pd
    (d (confirming 60 false .dialling)).tId = some 300 ∧ (d (confirming 60 false .dialling)).pulseCount = 1
      ∧ (d (confirming 60 true .dialling)).period = 1600 ∧ (d (confirming 60 true .dialling)).pulseCount = 3
      ∧ (d (confirming 60 true .dialling)).makeTimer = 15
      ∧ (d ((confirming 52 true .dialling).updPd 3 fun x => { x with mPrev := 31 })).period = 1566
      ∧ (d ((confirming 52 true .dialling).updPd 3 fun x => { x with mPrev := 31 })).tId = some 293
      ∧ (d ((confirming 40 true .dialling).updPd 3 fun x => { x with mPrev := 45 })).flags.ratioLow = true
      ∧ (d ((confirming 80 true .dialling).updPd 3 fun x => { x with mPrev := 25 })).flags.ratioHigh = true := by
  decide +kernel

theorem test_other_breaks :
    ((run (.makeConfirmed 3) (confirming 19 true .dialling)).line 3).pd.makeTimer = 74
      ∧ events .a (run (.makeConfirmed 3) (confirming 150 true .dialling)) = [(.breakError, [3, 0, 0, 37, 2])]
      ∧ events .a (run (.makeConfirmed 3) (confirming 400 true .conversation)) = [(.flash, [3, 0, 1, 100, 2])]
      ∧ ((run (.makeConfirmed 3) (confirming 400 true .conversation)).line 3).pd.flashMask = true
      ∧ run (.makeConfirmed 4) (confirming 60 true .dialling) = confirming 60 true .dialling := by decide +kernel

/-- A flash in CONVERSATION with flash_tone ON stores an FL record (R32). -/
theorem test_flash_record :
    let s := (confirming 400 false .conversation).updPt 3 fun p => { p with snapshot := { p.snapshot with flashTone := true } }
    (((run (.makeConfirmed 3) s).line 3).ds.queue.map DigitRecord.symbol) = [.fl] := by decide +kernel

/-- The numberings of R34 at the ends of the pulse counts, and the end of valid counts. -/
theorem test_numberings :
    digitOf .standard 1 = some 1 ∧ digitOf .standard 10 = some 0 ∧ digitOf .inverted 1 = some 9
      ∧ digitOf .inverted 10 = some 0 ∧ digitOf .offset 1 = some 0 ∧ digitOf .offset 10 = some 9
      ∧ digitOf .standard 11 = none := by decide

theorem test_digit_complete :
    ((completing 2 .dialling).line 3).pd.tId = some 300 ∧ 300 ≤ ((completing 2 .dialling).line 3).pd.makeTimer
      ∧ ((completing 2 .dialling).line 3).due = .limits ∧ ((completing 2 .dialling).line 3).pd.inDigit = true
      ∧ events .a (run (.digitComplete 3) (completing 2 .dialling)) = [(.digitDecoded, [3, 0, 1, 2, 2])]
      ∧ ((run (.digitComplete 3) (completing 2 .dialling)).line 3).ds.queue.map DigitRecord.symbol = [.digit 2]
      ∧ events .a (run (.digitComplete 3) (completing 11 .dialling)) = [(.digitDropped, [3, 0, 1, 0, 11])]
      ∧ run (.digitComplete 4) (completing 2 .dialling) = completing 2 .dialling := by decide +kernel

/-- Premises of the walker's clauses: the stages, the flags, the digit limit, the branches, the outcomes of an offer. -/
theorem test_walker_premises :
    let digit : Digit := ⟨5, 5, {}, 1, 0⟩
    let plan := (State.reset.plan.set 0 (Vector.replicate 10 (.hold 7))).set 63 (Vector.replicate 10 .reject)
    let s := with3 (inCall .dialling [] false)
    let full := with3 (inCall .dialling (List.replicate 16 (rec5 0 .none)) false)
    (s.line 3).npw.stage = .dialling ∧ (s.line 3).npw.held = false ∧ (s.line 3).npw.completePending = false
      ∧ (s.line 3).npw.walked < 24 ∧ (s.plan[(s.line 3).npw.node])[digit.symbol] = .cont 0
      ∧ (plan[(0 : Fin 64)])[digit.symbol] = .hold 7 ∧ (plan[(63 : Fin 64)])[digit.symbol] = .reject
      ∧ (s.offer 3 (digit.offer .none)).1 = none ∧ (full.offer 3 (digit.offer .held)).1 = some .queueFull
      ∧ (onHold.line 3).npw.held = true
      ∧ ((with3 (inCall .rejected [] false)).line 3).npw.stage = .rejected
      ∧ ((with3 (inCall .conversation [] false)).line 3).npw.stage = .conversation := by decide +kernel

theorem test_walker :
    let digit : Digit := ⟨5, 5, {}, 1, 0⟩
    let s := with3 (inCall .dialling [] false)
    let atNode (b : Branch) := { s with plan := s.plan.set 0 (Vector.replicate 10 b) }
    let tired := s.updNpw 3 fun w => { w with walked := 24 }
    let full := with3 (inCall .dialling (List.replicate 16 (rec5 0 .none)) false)
    ((s.digitToWalker 3 digit).line 3).npw.walked = 1
      ∧ (((atNode (.cont 9)).digitToWalker 3 digit).line 3).npw.node = 9
      ∧ events .a ((atNode .complete).digitToWalker 3 digit) = [(.planComplete, [3, 0, 1, 0, 1])]
      ∧ events .a ((atNode (.hold 7)).digitToWalker 3 digit) = [(.planHold, [3, 0, 1, 0, 5])]
      ∧ events .a ((atNode .reject).digitToWalker 3 digit) = [(.planReject, [3, 0, 1, 0, 0])]
      ∧ events .a (tired.digitToWalker 3 digit) = [(.planReject, [3, 0, 1, 1, 0])]
      ∧ events .a (full.digitToWalker 3 digit) = [(.planReject, [3, 0, 1, 2, 16])]
      ∧ ((onHold.digitToWalker 3 digit).line 3).ds.queue.map DigitRecord.mark = [.none, .held, .unwalked, .unwalked] := by
  decide +kernel

theorem test_reject_premises :
    (onHold.line 3).ds.queue = [] ++ heldQueue ∧ (onHold.line 3).ds.inEmission = false
      ∧ (bursting.line 3).ds.queue = [rec5 0 .none] ++ [rec5 1 .none] ∧ (bursting.line 3).ds.inEmission = true
      ∧ ([rec5 0 .none] : List DigitRecord).length = 1 := by decide +kernel

theorem test_release :
    let s := bursting.updLine 3 fun l => { l with pd := { l.pd with state := .brk, breakTimer := 901 }, due := .release }
    (s.line 3).due = .release ∧ ((run (.release 3) s).line 3).npw.stage = .idle
      ∧ events .a (run (.release 3) s) = [(.released, [3, 0, 0, 2, 0])]
      ∧ ((run (.release 3) s).gen 2).holder = none ∧ (run (.release 3) s).freeList.length = 256
      ∧ run (.release 3) bursting = bursting := by decide +kernel

/-! ## Timers and emission -/

theorem test_dial_timeout :
    let s (t : Nat) := with3 fun l =>
      let c := inCall .dialling [] false l
      { c with npw := { c.npw with digitSeen := true, walked := 4, completePending := true, timer := some t } }
    ((s 8000).line 3).npw.timer = some 8000 ∧ ((s 8000).snapshot 3).endTimeout = 8000
      ∧ ((s 8000).line 3).timerRuns = true
      ∧ events .a (run (.dialTimeout 3) (s 8000)) = [(.dialTimeout, [3, 0, 0, 4, 1])]
      ∧ ((run (.dialTimeout 3) (s 8000)).line 3).npw.stage = .conversation
      ∧ run (.dialTimeout 3) (s 7999) = s 7999
      ∧ ((run (.dialTimeout 3) ((s 8000).updPd 3 fun d => { d with inDigit := true })).line 3).npw.timer = none := by
  decide +kernel

theorem test_auto_proceed :
    let s (t : Nat) := with3 fun l =>
      let c := inCall .dialling [] false l
      { c with
        pt := { c.pt with snapshot := { c.pt.snapshot with autoProceed := 500 } }
        es := { c.es with autoTimer := some t } }
    ((s 500).line 3).es.autoTimer = some 500
      ∧ ((run (.autoProceedExpiry 3) (s 500)).line 3).es.gate = true
      ∧ ((run (.autoProceedExpiry 3) (s 500)).line 3).es.autoTimer = none
      ∧ run (.autoProceedExpiry 3) (s 499) = s 499 := by decide +kernel

/-- Two lines wait; line 9, the head, gets generator 0 and line 3 generator 1 (R115). -/
theorem test_generator_grant :
    twoWaiting.arbiterDue = true ∧ twoWaiting.waiting.Nodup
      ∧ (allGenerators.filter fun g => (twoWaiting.gen g).holder.isNone) = allGenerators
      ∧ (∀ n ∈ twoWaiting.waiting, (twoWaiting.line n).ds.queue ≠ [])
      ∧ ((run .generatorGrant twoWaiting).line 9).es.generator = some 0
      ∧ ((run .generatorGrant twoWaiting).line 3).es.generator = some 1
      ∧ ((run .generatorGrant twoWaiting).line 3).es.remaining = 560
      ∧ ((run .generatorGrant twoWaiting).gen 1).incLow = 6308 ∧ (run .generatorGrant twoWaiting).waiting = []
      ∧ State.reset.arbiterDue = false := by decide +kernel

/-- With one generator free the head of the list gets it and the other goes on waiting (R115). -/
theorem test_grant_with_one_free :
    let s := { twoWaiting with gens := Vector.ofFn fun g => if g.val = 6 then ({} : Generator) else { holder := some 20 } }
    (run .generatorGrant s).waiting = [3] ∧ ((run .generatorGrant s).line 9).es.generator = some 6
      ∧ ((run .generatorGrant s).line 3).es.emission = .waitingGen := by decide +kernel

theorem test_on_phase_end :
    (bursting.line 3).es.emission = .toneOn ∧ (bursting.line 3).es.remaining = 0
      ∧ (bursting.line 3).es.generator = some 2
      ∧ events .a (run (.onPhaseEnd 3) bursting) = [(.digitEmitted, [3, 0, 1, 5, 2])]
      ∧ ((run (.onPhaseEnd 3) bursting).line 3).es.emission = .toneOff
      ∧ ((run (.onPhaseEnd 3) bursting).line 3).ds.queue = [rec5 1 .none]
      ∧ ((run (.onPhaseEnd 3) bursting).gen 2).holder = none
      ∧ events .m (run (.onPhaseEnd 3) (bursting.updLine 3 inTest))
        = [(.digitEmitted, [3, 0, 1, 5, 2]), (.testBurst, [3, 0, 1, 5, 0])] := by decide +kernel

theorem test_off_phase_end :
    let s (queue : List DigitRecord) (stage : Stage) (rem : Nat) := with3 fun l =>
      let c := inCall stage queue true l
      { c with
        npw := { c.npw with completePending := stage == .dialling }
        es := { c.es with emission := .toneOff, remaining := rem } }
    ((s [] .dialling 0).line 3).es.emission = .toneOff
      ∧ ((run (.offPhaseEnd 3) (s [] .dialling 0)).line 3).npw.stage = .conversation
      ∧ ((run (.offPhaseEnd 3) (s [rec5 0 .none] .conversation 0)).line 3).es.emission = .waitingGen
      ∧ run (.offPhaseEnd 3) (s [] .dialling 1) = s [] .dialling 1 := by decide +kernel

/-! ## The highways -/

/-- The counters at the first frame sync, within a tick, and at the end of a tick and of the timestamp (R131). -/
theorem test_counters :
    let c (s : State) := ((run (.frameBoundary (samples 1) (samples 2)) s).frameCounter,
      (run (.frameBoundary (samples 1) (samples 2)) s).timestamp)
    c State.reset = (0, 0) ∧ c (running 0 9) = (1, 9) ∧ c (running 7 9) = (0, 10) ∧ c (running 7 0xFFFFFFFF) = (0, 0)
      ∧ run (.tickBoundary (samples 1) (samples 2)) (running 0 9) = running 0 9
      ∧ (run (.tickBoundary (samples 1) (samples 2)) (running 7 9)).scanRequested = true := by decide +kernel

/-- The slots of an idle line, a line in a burst, a line in DIALLING, a line in CONVERSATION, a line OUT_OF_SERVICE (R123). -/
theorem test_slots :
    let s := { ((((bursting.updLine 4 (inCall .idle [] false)).updLine 5 (inCall .dialling [] false)).updLine 6
      (inCall .conversation [] false)).updLine 3 fun l => { l with es := { l.es with remaining := 560 } }) with
      frameOpen := true }
    let t := run (.frameBoundary (samples 1) (samples 2)) s
    t.sUp[3] = 0 ∧ t.sUp[4] = 2 ∧ t.sUp[5] = 0 ∧ t.sUp[6] = 2 ∧ t.sUp[7] = 0 ∧ t.lDown[7] = 1
      ∧ (t.line 3).es.remaining = 559 ∧ (t.gen 2).phaseLow = 6308
      ∧ (run (.frameBoundary (samples 1) (samples 2)) t).sUp[3] = 11437 := by decide +kernel

/-- At the sync that opens a tick a line in TEST is fed and sampled, and a scan-fed line waits for its frame (R6, R13, R181). -/
theorem test_tick_feeds_test_lines :
    let s := { (playing 0 0).updLine 4 (inCall .dialling [] false) with frameOpen := true, frameCounter := 7 }
    let t := run (.tickBoundary (samples 1) (samples 2)) s
    s.frameOpen = true ∧ s.frameCounter = 7 ∧ (s.line 3).lat.service = .test
      ∧ (t.line 3).mu.testLevel = some .make ∧ (t.line 3).ls.candidate = 1 ∧ t.play = some ⟨3, 0, 1⟩
      ∧ (t.line 3).due = .nothing ∧ (t.line 4).due = .scan ⟨40, 24, 3⟩ ∧ t.scanRequested = true := by decide +kernel

/-- Values of the sine table at the ends of its quarters, and entry 24 (R137). -/
theorem test_sine :
    sine 0 = 0 ∧ sine 24 = 18204 ∧ sine 64 = 32767 ∧ sine 128 = 0 ∧ sine 192 = -32767 ∧ sine 255 = -804 := by decide

/-- A sample that saturates at either end, and one that does not (R138). -/
theorem test_saturation :
    let g (p : BitVec 16) : Generator := { levelLow := 32767, levelHigh := 32767, phaseLow := p, phaseHigh := p }
    (g 0x4000).sample = 0x7FFF ∧ (g 0x4000).isSaturated = true ∧ (g 0xC000).sample = 0x8000
      ∧ (g 0xC000).isSaturated = true ∧ (g 0).sample = 0 ∧ (g 0).isSaturated = false
      ∧ (32767 < (sine 64 * 32767 + sine 64 * 32767 + 16384) / 32768)
      ∧ ((sine 192 * 32767 + sine 192 * 32767 + 16384) / 32768 < -32768) := by decide

/-- The burst measure at a saturated sample of either sign, at its largest count, and at a sample that is not saturated. -/
theorem test_measure :
    let g (p : BitVec 16) (k : Nat) : Generator :=
      { levelLow := 32767, levelHigh := 32767, phaseLow := p, phaseHigh := p, peak := 9, saturated := k }
    ((g 0x4000 7).measure.peak = 32767 ∧ (g 0x4000 7).measure.saturated = 8)
      ∧ ((g 0xC000 65535).measure.peak = 32768 ∧ (g 0xC000 65535).measure.saturated = 65535)
      ∧ ((g 0 7).measure.peak = 9 ∧ (g 0 7).measure.saturated = 7) := by decide

/-! ## The queue and the invariants -/

theorem test_step_takes_the_front :
    State.reset.pending = [] ∧ State.reset.boundaryFirst = State.reset
      ∧ (State.reset.queueFront (.nop .a 0 [])).pending = [.nop .a 0 []]
      ∧ (State.reset.withFetchWord 8 0) = State.reset ∧ decodeTableWord 8 0 = none := by decide +kernel

theorem test_a_step_answers_next :
    step bursting = .next bursting ∧ step (bursting.queueFront (.onPhaseEnd 3)) = exec (.onPhaseEnd 3) bursting :=
  ⟨rfl, rfl⟩

/-- A state other than the reset state meets the invariants of the profiles, the event queues, the calls and the store. -/
theorem test_invariants_have_states :
    (∀ i : Fin 8, bursting.profiles[i].valid = true)
      ∧ (∀ n : LineId, (bursting.snapshot n).valid = true ∧ within 960 2560 (bursting.line n).pd.period = true)
      ∧ (∀ p ∈ allPorts, (({ bursting with portA := fullPort } : State).port p).queue.length ≤ 64
          ∧ (({ bursting with portA := fullPort } : State).port p).lost ≤ 255)
      ∧ (∀ n : LineId, (bursting.line n).callConsistent = true)
      ∧ bursting.recordNumbers.Perm (List.finRange 256) := by decide +kernel

/-- The same state meets the invariant of the pool. -/
theorem test_pool_invariant_has_a_state :
    (∀ n : LineId, ∀ g : Fin 8, (bursting.line n).es.generator = some g ↔ (bursting.gen g).holder = some n)
      ∧ (∀ n : LineId, ((bursting.line n).es.emission = .toneOn ↔ (bursting.line n).es.generator.isSome = true)
          ∧ ((bursting.line n).ds.inEmission = true ↔ (bursting.line n).es.emission = .toneOn))
      ∧ bursting.waitingList.Nodup
      ∧ ∀ n : LineId, n ∈ bursting.waitingList ↔ (bursting.line n).es.emission = .waitingGen := by decide +kernel

/-- A request on port B broken off after its first data octet, port A after a row with a data octet, port M idle. -/
def receiving : State :=
  [0x42, 0, 3, 1].foldl (fun s o => run (.octetTime .b o) s) (run (.nop .a 0 [9]) (run (.frameBegin .b) (playing 1 89)))

theorem test_receiving :
    (receiving.port .b).receiver = .request ∧ (receiving.port .b).request = ⟨some 0x42, some 0, some 3, [1], 1⟩
      ∧ (receiving.port .a).receiver = .response ∧ (receiving.port .a).request = ⟨some 0, some 0, some 1, [9], 1⟩
      ∧ (receiving.port .m).receiver = .idle ∧ (receiving.port .m).request = {} := by decide +kernel

/-- The buffers of those three ports are sound. -/
theorem test_request_buffers_have_a_state : RequestBuffersSound receiving := by
  obtain ⟨_, hb, ra, ha, rm, hm⟩ := test_receiving
  intro p
  cases p
  · exact ⟨by rw [ha]; decide, by rw [ha]; decide, fun h => by rw [ra] at h; cases h⟩
  · exact ⟨by rw [hb]; decide, by rw [hb]; decide, fun _ l h => by rw [hb] at h ⊢; cases h; decide⟩
  · exact ⟨by rw [hm]; decide, by rw [hm]; decide, fun h => by rw [rm] at h; cases h⟩

/-- A state in which a pattern plays meets the invariant of the test lines. -/
theorem test_test_lines_invariant_has_a_state : TestLinesSound (playing 1 89) := by
  refine ⟨by decide +kernel, by decide +kernel, ?_⟩
  intro pl h
  have e : pl = ⟨3, 1, 89⟩ := by
    have : (playing 1 89).play = some ⟨3, 1, 89⟩ := rfl
    rw [this] at h
    cases h
    rfl
  subst e
  exact ⟨by decide +kernel, [⟨.make, 100⟩, ⟨.brk, 90⟩], rfl, by decide⟩

end Sys2Proof.Tests
end

/-! ## Commands taken on a port, and the call commands of the first row of R152 -/

namespace Sys2Proof.Machine

/-- A row of the command set leaves its port as `answered` says, with the reply and the state of its action (R159). -/
theorem takeRow_eq_answered (act : Action) (p : PortId) (c t : Octet) (d : List Octet) (s : State) (reply : Reply)
    (u : State) (h : act p (request c t d) s.boundaryFirst = (reply, u)) :
    takeRow act p c t d s = answered p (request c t d) reply.status reply.data u := by
  rw [takeRow, take_eq, h]
  rfl

/-- The first row of R152 where it refuses: WRONG_STATE in TEST, WRONG_PORT from M, NOT_OWNER from a call controller. -/
theorem callPermission_refused (s : State) (n : LineId) (p : PortId) (h : s.callPermission n p ≠ none) :
    s.callPermission n p
      = some (if (s.line n).lat.service = .test then .wrongState else if p = .m then .wrongPort else .notOwner) := by
  unfold State.callPermission at h ⊢
  by_cases test : (s.line n).lat.service = .test
  · have notM : p ≠ .m := fun isM => h (by simp [test, isM])
    simp [test, notM]
  · by_cases isM : p = .m
    · simp [test, isM]
    · have notOwner : s.ownedBy n p = false := by simpa [test, isM] using h
      simp [test, isM, notOwner]

/-- A call command without data passes its length and range checks on the octet of a line; the port check is left. -/
theorem callCommand_lineTarget (p : PortId) (c : Octet) (n : LineId) (s : State) (rest : LineId → Reply × State) :
    callCommand p (request c (lineTarget n) []) s rest = permitted (s.callPermission n p) s (rest n) :=
  withLine_ok _ _ _ _ n rfl (lineOfOctet_line n)

/-- A call command from a port that the first row of R152 allows does its work. -/
theorem callCommand_allowed (p : PortId) (c : Octet) (n : LineId) (s : State) (rest : LineId → Reply × State)
    (h : s.callPermission n p = none) : callCommand p (request c (lineTarget n) []) s rest = rest n := by
  rw [callCommand_lineTarget, h]
  rfl

/-- A call command from a port that the first row of R152 does not allow is refused with that row's status. -/
theorem callCommand_refused (p : PortId) (c : Octet) (n : LineId) (s : State) (rest : LineId → Reply × State)
    (h : s.callPermission n p ≠ none) :
    callCommand p (request c (lineTarget n) []) s rest
      = refuse (if (s.line n).lat.service = .test then .wrongState else if p = .m then .wrongPort else .notOwner) s := by
  rw [callCommand_lineTarget, callPermission_refused s n p h]
  rfl

/-! ## FLASH_ACK -/

/-- FLASH_ACK is taken as its row of the command table. -/
theorem exec_flashAck (p : PortId) (t : Octet) (d : List Octet) (s : State) :
    exec (.flashAck p t d) s = .next (takeRow actFlashAck p 0x34 t d s) := rfl

/-- FLASH_ACK from a port that may send it: the mask before in the reply, the mask cleared (R33). -/
theorem actFlashAck_allowed (p : PortId) (c : Octet) (n : LineId) (s : State) (h : s.callPermission n p = none) :
    actFlashAck p (request c (lineTarget n) []) s
      = (⟨.ok, [flagOctet (s.line n).pd.flashMask]⟩,
          s.updLine n fun l => { l with pd := { l.pd with flashMask := false } }) := by
  rw [actFlashAck, callCommand_allowed p c n s _ h, accept, updPd_eq]

/-- FLASH_ACK from another port: refused, and the state as it was (R152, R161). -/
theorem actFlashAck_refused (p : PortId) (c : Octet) (n : LineId) (s : State) (h : s.callPermission n p ≠ none) :
    actFlashAck p (request c (lineTarget n) []) s
      = (⟨if (s.line n).lat.service = .test then .wrongState else if p = .m then .wrongPort else .notOwner, []⟩, s) := by
  rw [actFlashAck, callCommand_refused p c n s _ h, refuse]

/-- Settles O29: the two outcomes of the port check of R152, which `callPermission_spec` spells. -/
theorem flashAckClearsTheMask : Obligations.FlashAckClearsTheMask := by
  unfold Obligations.FlashAckClearsTheMask
  rintro p n s u rfl
  rw [← callPermission_spec]
  constructor
  · intro allowed
    rw [exec_flashAck, takeRow_eq_answered _ _ _ _ _ _ _ _ (actFlashAck_allowed p 0x34 n _ allowed), flagOctet]
  · intro refused
    rw [exec_flashAck, takeRow_eq_answered _ _ _ _ _ _ _ _ (actFlashAck_refused p 0x34 n _ refused)]

end Sys2Proof.Machine

/-! ## MAKE_CONFIRMED of a pulse -/

namespace Sys2Proof.Machine

/-- MAKE_CONFIRMED is the confirmation of a make, after the arbiter (R26, R115). -/
theorem exec_makeConfirmed (n : LineId) (s : State) :
    exec (.makeConfirmed n) s = .next (s.boundaryFirst.makeConfirmed n) := rfl

/-- A count of a line's statistics is an update of that line (R44). -/
theorem count_eq_updLine (s : State) (n : LineId) (f : Statistics → Statistics) :
    s.count n f = s.updLine n fun l => { l with mu := { l.mu with stats := f l.mu.stats } } := rfl

/-- A break from break_min to break_max is a pulse (R26). -/
theorem classifyBreak_pulse (e : Profile) (b : Nat) (atLeast : e.breakMin ≤ b) (atMost : b ≤ e.breakMax) :
    classifyBreak e b = .pulse := by
  rw [classifyBreak, if_neg (Nat.not_lt.mpr atLeast), if_pos atMost]

/-- A confirmation that is due takes the tick's work off the line and classifies the break (R26). -/
theorem makeConfirmed_of_due (s : State) (n : LineId) (due : (s.line n).due = .limits)
    (pending : (s.line n).pd.state = .makePending) (reached : (s.snapshot n).makeMin ≤ (s.line n).pd.makeTimer) :
    s.makeConfirmed n = (s.setDue n .nothing).classify n := by
  rw [State.makeConfirmed, if_pos ⟨due, pending, reached⟩]

/-- What the tick owes a line is no part of its snapshot. -/
theorem snapshot_setDue (s : State) (n : LineId) (d : Due) : (s.setDue n d).snapshot n = s.snapshot n := by
  rw [State.snapshot, setDue_eq, line_updLine_self, State.snapshot]

/-- What the tick owes a line is no part of its decoder. -/
theorem line_pd_setDue (s : State) (n : LineId) (d : Due) : ((s.setDue n d).line n).pd = (s.line n).pd := by
  rw [setDue_eq, line_updLine_self]

/-- A due confirmation of a break from break_min to break_max is a pulse of the line (R26, R28). -/
theorem makeConfirmed_of_pulse (s : State) (n : LineId) (due : (s.line n).due = .limits)
    (pending : (s.line n).pd.state = .makePending) (reached : (s.snapshot n).makeMin ≤ (s.line n).pd.makeTimer)
    (atLeast : (s.snapshot n).breakMin ≤ (s.line n).pd.b) (atMost : (s.line n).pd.b ≤ (s.snapshot n).breakMax) :
    s.makeConfirmed n = (s.setDue n .nothing).pulse n := by
  rw [makeConfirmed_of_due s n due pending reached, State.classify, snapshot_setDue, line_pd_setDue,
    classifyBreak_pulse _ _ atLeast atMost]

/-- The first pulse of a digit as one update of its line and a watch entry (R28, R53). -/
theorem pulse_first (s : State) (n : LineId) (opens : (s.line n).pd.inDigit = false) :
    s.pulse n
      = (s.updLine n fun x =>
          { x with
            pd := (x.pd.firstPulse (s.snapshot n)).toMake (s.snapshot n).makeMin
            mu := { x.mu with stats := x.mu.stats.addPulse } }).watchEntry n .brk (s.line n).pd.b .pulse := by
  rw [State.pulse]
  simp only [opens, Bool.false_eq_true, if_false, count_eq_updLine, updPd_eq, updLine_updLine]

/-- A pulse pair as one update of its line and a watch entry: the ratio of the pair decides whether it is counted as
flagged (R28, R51, R53, R56). -/
theorem pulse_pair (s : State) (n : LineId) (goesOn : (s.line n).pd.inDigit = true) :
    s.pulse n
      = (s.updLine n fun x =>
          { x with
            pd := (x.pd.pulsePair (s.snapshot n)).toMake (s.snapshot n).makeMin
            mu := { x.mu with
              stats :=
                if ratioOutside (s.snapshot n) (breakRatio (s.line n).pd.mPrev (s.line n).pd.b) then
                  x.mu.stats.addPulse.addRatioFlag
                else x.mu.stats.addPulse } }).watchEntry n .brk (s.line n).pd.b .pulse := by
  rw [State.pulse]
  simp only [goesOn, if_true, count_eq_updLine, updPd_eq, updLine_updLine]
  split <;> rfl

/-- The ratio of a pair sets a flag when it is below ratio_low or above ratio_high (R56). -/
theorem ratioOutside_iff (e : Profile) (ratio : Nat) :
    ratioOutside e ratio = true ↔ ratio < e.ratioLow ∨ e.ratioHigh < ratio := by
  simp [ratioOutside]

/-- The statistics of a pulse pair: the pulse is counted, and its ratio where it is outside the limits (R44, R56). -/
theorem stats_of_pair (t : Statistics) (e : Profile) (ratio : Nat) :
    (if ratioOutside e ratio then t.addPulse.addRatioFlag else t.addPulse)
      = { t with
          pulses := min 65535 (t.pulses + 1)
          ratioFlags :=
            if ratio < e.ratioLow ∨ e.ratioHigh < ratio then min 65535 (t.ratioFlags + 1) else t.ratioFlags } := by
  by_cases outside : ratio < e.ratioLow ∨ e.ratioHigh < ratio
  · rw [if_pos ((ratioOutside_iff e ratio).mpr outside), if_pos outside]
    rfl
  · rw [if_neg (mt (ratioOutside_iff e ratio).mp outside), if_neg outside]
    rfl

/-- Settles O43: a break in the pulse range is a pulse (`makeConfirmed_of_pulse`), whose two cases `pulse_first` and
`pulse_pair` give as one update of the line; the values of R51 and R52 are those of its context. -/
theorem confirmedPulsesBuildTheDigit : Obligations.ConfirmedPulsesBuildTheDigit := by
  unfold Obligations.ConfirmedPulsesBuildTheDigit
  rintro n s u l e p ratio rfl rfl rfl due pending reached atLeast atMost rfl rfl
  rw [exec_makeConfirmed, makeConfirmed_of_pulse _ n due pending reached atLeast atMost]
  constructor
  · intro opens
    rw [pulse_first _ n (by rwa [line_pd_setDue]), line_pd_setDue, snapshot_setDue, setDue_eq, updLine_updLine]
    rfl
  · intro goesOn
    rw [pulse_pair _ n (by rwa [line_pd_setDue]), line_pd_setDue, snapshot_setDue, setDue_eq, updLine_updLine]
    congr 2
    refine updLine_congr _ n _ _ ?_
    simp only [stats_of_pair]
    rfl

end Sys2Proof.Machine

/-! ## The commands that read: their rows, and the checks of length and target -/

namespace Sys2Proof.Machine

/-- NOP is taken as its row of the command table. -/
theorem exec_nop (p : PortId) (t : Octet) (d : List Octet) (s : State) :
    exec (.nop p t d) s = .next (takeRow actNop p 0x00 t d s) := rfl

/-- READ_LINE is taken as its row of the command table. -/
theorem exec_readLine (p : PortId) (t : Octet) (d : List Octet) (s : State) :
    exec (.readLine p t d) s = .next (takeRow actReadLine p 0x01 t d s) := rfl

/-- PEEK_QUEUE is taken as its row of the command table. -/
theorem exec_peekQueue (p : PortId) (t : Octet) (d : List Octet) (s : State) :
    exec (.peekQueue p t d) s = .next (takeRow actPeekQueue p 0x02 t d s) := rfl

/-- READ_EVENTS is taken as its row of the command table. -/
theorem exec_readEvents (p : PortId) (t : Octet) (d : List Octet) (s : State) :
    exec (.readEvents p t d) s = .next (takeRow actReadEvents p 0x03 t d s) := rfl

/-- READ_PROFILE is taken as its row of the command table. -/
theorem exec_readProfile (p : PortId) (t : Octet) (d : List Octet) (s : State) :
    exec (.readProfile p t d) s = .next (takeRow actReadProfile p 0x04 t d s) := rfl

/-- READ_PLAN is taken as its row of the command table. -/
theorem exec_readPlan (p : PortId) (t : Octet) (d : List Octet) (s : State) :
    exec (.readPlan p t d) s = .next (takeRow actReadPlan p 0x05 t d s) := rfl

/-- READ_POOL is taken as its row of the command table. -/
theorem exec_readPool (p : PortId) (t : Octet) (d : List Octet) (s : State) :
    exec (.readPool p t d) s = .next (takeRow actReadPool p 0x06 t d s) := rfl

/-- A command that its action refuses leaves its port with the status and no data, and nothing else changed (R161). -/
theorem takeRow_refused (act : Action) (p : PortId) (c t : Octet) (d : List Octet) (s : State) (status : Status)
    (h : act p (request c t d) s.boundaryFirst = refuse status s.boundaryFirst) :
    takeRow act p c t d s = answered p (request c t d) status [] s.boundaryFirst :=
  takeRow_eq_answered act p c t d s ⟨status, []⟩ s.boundaryFirst h

/-- A command that its action accepts leaves its port with OK and the response octets (R159). -/
theorem takeRow_accepted (act : Action) (p : PortId) (c t : Octet) (d : List Octet) (s : State) (data : List Octet)
    (u : State) (h : act p (request c t d) s.boundaryFirst = accept data u) :
    takeRow act p c t d s = answered p (request c t d) .ok data u :=
  takeRow_eq_answered act p c t d s ⟨.ok, data⟩ u h

/-- An action whose first check is that of the data length (R161). -/
def ChecksLength (act : Action) (k : Nat) : Prop := ∀ p r s, ∃ rest, act p r s = withLength r k s rest

/-- A command that checks its length is refused LENGTH with any other, from every port and whatever its target (R161). -/
theorem takeRow_badLength {act : Action} {k : Nat} (checks : ChecksLength act k) (p : PortId) (c t : Octet)
    (d : List Octet) (s : State) (bad : d.length ≠ k) :
    takeRow act p c t d s = answered p (request c t d) .length [] s.boundaryFirst := by
  obtain ⟨rest, first⟩ := checks p (request c t d) s.boundaryFirst
  exact takeRow_refused _ _ _ _ _ _ _ (first.trans (withLength_bad _ _ _ rest bad))

/-! The length that the table of R173 gives each reading command is its action's first check. -/

theorem actNop_checksLength : ChecksLength actNop 0 := fun _ _ _ => ⟨_, rfl⟩

theorem actReadLine_checksLength : ChecksLength actReadLine 0 := fun _ _ _ => ⟨_, rfl⟩

theorem actPeekQueue_checksLength : ChecksLength actPeekQueue 0 := fun _ _ _ => ⟨_, rfl⟩

theorem actReadEvents_checksLength : ChecksLength actReadEvents 1 := fun _ _ _ => ⟨_, rfl⟩

theorem actReadProfile_checksLength : ChecksLength actReadProfile 0 := fun _ _ _ => ⟨_, rfl⟩

theorem actReadPlan_checksLength : ChecksLength actReadPlan 0 := fun _ _ _ => ⟨_, rfl⟩

theorem actReadPool_checksLength : ChecksLength actReadPool 0 := fun _ _ _ => ⟨_, rfl⟩

/-- A request without data passes a length check of 0 (R161). -/
theorem withLength_noData (c t : Octet) (s : State) (x : Reply × State) : withLength (request c t []) 0 s x = x :=
  withLength_ok _ _ _ _ rfl

/-- A target of 32 or more names no line. -/
theorem lineOfOctet_outside (t : Octet) (outside : 32 ≤ t.toNat) : lineOfOctet t = none :=
  dif_neg (Nat.not_lt.mpr outside)

/-- A command without data for a target that names no line is refused RANGE (R161). -/
theorem withLine_outside (c t : Octet) (s : State) (x : LineId → Reply × State) (outside : 32 ≤ t.toNat) :
    withLine (request c t []) 0 s x = refuse .range s :=
  withLine_range _ _ _ _ rfl (lineOfOctet_outside t outside)

/-- A target of 8 or more names no profile entry. -/
theorem entryOfOctet_outside (t : Octet) (outside : 8 ≤ t.toNat) : entryOfOctet t = none :=
  dif_neg (Nat.not_lt.mpr outside)

/-- A target of 64 or more names no plan node. -/
theorem nodeOfOctet_outside (t : Octet) (outside : 64 ≤ t.toNat) : nodeOfOctet t = none :=
  dif_neg (Nat.not_lt.mpr outside)

/-- The octet of a profile entry names the entry. -/
theorem entryOfOctet_entry (i : Fin 8) : entryOfOctet (BitVec.ofNat 8 i.val) = some i := by
  revert i
  decide

/-- The octet of a plan node names the node. -/
theorem nodeOfOctet_node (i : Fin 64) : nodeOfOctet (BitVec.ofNat 8 i.val) = some i := by
  revert i
  decide

/-! ## The commands that change nothing -/

/-- PEEK_QUEUE for a line (R84). -/
theorem actPeekQueue_line (p : PortId) (c : Octet) (n : LineId) (s : State) :
    actPeekQueue p (request c (lineTarget n) []) s = accept (s.line n).ds.octets s :=
  withLine_ok _ _ _ _ n rfl (lineOfOctet_line n)

/-- READ_PROFILE for an entry (R62). -/
theorem actReadProfile_entry (p : PortId) (c : Octet) (i : Fin 8) (s : State) :
    actReadProfile p (request c (BitVec.ofNat 8 i.val) []) s = accept s.profiles[i].octets s := by
  rw [actReadProfile, withLength_noData, request, entryOfOctet_entry]

/-- READ_PROFILE for no entry (R161). -/
theorem actReadProfile_outside (p : PortId) (c t : Octet) (s : State) (outside : 8 ≤ t.toNat) :
    actReadProfile p (request c t []) s = refuse .range s := by
  rw [actReadProfile, withLength_noData, request, entryOfOctet_outside t outside]

/-- READ_PLAN for a node (R91). -/
theorem actReadPlan_node (p : PortId) (c : Octet) (i : Fin 64) (s : State) :
    actReadPlan p (request c (BitVec.ofNat 8 i.val) []) s = accept (planNodeOctets s.plan[i]) s := by
  rw [actReadPlan, withLength_noData, request, nodeOfOctet_node]

/-- READ_PLAN for no node (R161). -/
theorem actReadPlan_outside (p : PortId) (c t : Octet) (s : State) (outside : 64 ≤ t.toNat) :
    actReadPlan p (request c t []) s = refuse .range s := by
  rw [actReadPlan, withLength_noData, request, nodeOfOctet_outside t outside]

/-- The low 16 bits of a number have the same two low octets (R171). -/
theorem be16_mod (k : Nat) : be16 (k % 65536) = [octet (k / 256), octet k] := by
  have high : octet (k % 65536 / 256) = octet (k / 256) := BitVec.eq_of_toNat_eq (by simp [octet]; omega)
  have low : octet (k % 65536) = octet k := BitVec.eq_of_toNat_eq (by simp [octet])
  rw [be16, high, low]

/-- The 7 octets of a digit record (R175). -/
theorem digitRecord_octets (r : DigitRecord) :
    r.octets
      = [octet r.symbol.code, octet r.pulses, octet r.flags.value, r.seq, octet (r.decodedAt.toNat / 256),
          octet r.decodedAt.toNat, octet r.mark.code] := by
  rw [DigitRecord.octets, be16_mod]
  rfl

/-- The octets of a line's queue: its length, the in-emission flag, then the records (R84). -/
theorem dsLine_octets (q : DsLine) :
    q.octets
      = [octet q.queue.length, flagOctet q.inEmission]
        ++ q.queue.flatMap fun r =>
          [octet r.symbol.code, octet r.pulses, octet r.flags.value, r.seq, octet (r.decodedAt.toNat / 256),
            octet r.decodedAt.toNat, octet r.mark.code] := by
  rw [DsLine.octets, funext digitRecord_octets]

/-- READ_POOL: free records, holders of the generators, waiting list (R164). -/
theorem actReadPool_accepted (p : PortId) (c t : Octet) (s : State) :
    actReadPool p (request c t []) s
      = accept
          ([octet (s.freeList.length / 256), octet s.freeList.length]
            ++ allGenerators.map (fun g => lineOctet (s.gen g).holder)
            ++ [octet s.waitingList.length] ++ s.waitingList.map fun n => octet n.val)
          s := by
  rw [actReadPool, withLength_noData, be16, List.append_cons]

/-- Settles O13: each row by the outcome of its action; the refusals of LENGTH are all `takeRow_badLength`. -/
theorem readsReportAndChangeNothing : Obligations.ReadsReportAndChangeNothing := by
  unfold Obligations.ReadsReportAndChangeNothing
  rintro p t s u rfl
  refine ⟨fun d nonempty => ?withData, fun outside => ?lineOutside, ?nop, fun n => ?peekQueue, fun i => ?readProfile,
    fun outside => ?entryOutside, fun i => ?readPlan, fun outside => ?nodeOutside, ?readPool⟩
  case withData =>
    have bad : d.length ≠ 0 := mt List.length_eq_zero_iff.mp nonempty
    exact ⟨by rw [exec_nop, takeRow_badLength actNop_checksLength _ _ _ _ _ bad],
      by rw [exec_peekQueue, takeRow_badLength actPeekQueue_checksLength _ _ _ _ _ bad],
      by rw [exec_readProfile, takeRow_badLength actReadProfile_checksLength _ _ _ _ _ bad],
      by rw [exec_readPlan, takeRow_badLength actReadPlan_checksLength _ _ _ _ _ bad],
      by rw [exec_readPool, takeRow_badLength actReadPool_checksLength _ _ _ _ _ bad]⟩
  case lineOutside =>
    rw [exec_peekQueue, takeRow_refused actPeekQueue _ _ _ _ _ _ (withLine_outside _ _ _ _ outside)]
  case nop => rw [exec_nop, takeRow_accepted actNop _ _ _ _ _ _ _ (withLength_noData _ _ _ _)]
  case peekQueue => rw [exec_peekQueue, takeRow_accepted _ _ _ _ _ _ _ _ (actPeekQueue_line _ _ _ _), dsLine_octets]
  case readProfile => rw [exec_readProfile, takeRow_accepted _ _ _ _ _ _ _ _ (actReadProfile_entry _ _ _ _)]
  case entryOutside =>
    rw [exec_readProfile, takeRow_refused _ _ _ _ _ _ _ (actReadProfile_outside _ _ _ _ outside)]
  case readPlan => rw [exec_readPlan, takeRow_accepted _ _ _ _ _ _ _ _ (actReadPlan_node _ _ _ _)]
  case nodeOutside => rw [exec_readPlan, takeRow_refused _ _ _ _ _ _ _ (actReadPlan_outside _ _ _ _ outside)]
  case readPool => rw [exec_readPool, takeRow_accepted _ _ _ _ _ _ _ _ (actReadPool_accepted _ _ _ _)]

/-! ## READ_LINE -/

/-- The port that receives a line's events: M in TEST or without an owner, else the owner's (R8, R144). -/
theorem eq_eventPort_iff (s : State) (n : LineId) (p : PortId) :
    p = s.eventPort n
      ↔ (((s.line n).lat.service = .test ∨ (s.line n).lat.owner = .none) ∧ p = .m)
        ∨ ((s.line n).lat.service ≠ .test ∧ (s.line n).lat.owner.port = some p) := by
  rw [State.eventPort]
  cases (s.line n).lat.service <;> cases (s.line n).lat.owner <;> simp [Owner.port, eq_comm]

/-- READ_LINE for a line: its summary, and the latch cleared for the port of its events (R163). -/
theorem actReadLine_line (p : PortId) (c : Octet) (n : LineId) (s : State) :
    actReadLine p (request c (lineTarget n) []) s
      = accept (s.line n).summary
          (if p = s.eventPort n then s.updLine n fun l => { l with ls := { l.ls with faultLatch := false } } else s) :=
  withLine_ok _ _ _ _ n rfl (lineOfOctet_line n)

/-- Settles O14: the two outcomes of `actReadLine_line`, which `eq_eventPort_iff` tells apart. -/
theorem readLineClearsTheLatchForTheEventPort : Obligations.ReadLineClearsTheLatchForTheEventPort := by
  unfold Obligations.ReadLineClearsTheLatchForTheEventPort
  rintro p n s u l summary rfl rfl rfl
  rw [← eq_eventPort_iff]
  refine ⟨fun receives => ?_, fun other => ?_, fun t d nonempty => ?_, fun t outside => ?_⟩
  · rw [exec_readLine, takeRow_accepted _ _ _ _ _ _ _ _ (actReadLine_line _ _ _ _), if_pos receives]
    rfl
  · rw [exec_readLine, takeRow_accepted _ _ _ _ _ _ _ _ (actReadLine_line _ _ _ _), if_neg other]
    rfl
  · rw [exec_readLine,
      takeRow_badLength actReadLine_checksLength _ _ _ _ _ (mt List.length_eq_zero_iff.mp nonempty)]
  · rw [exec_readLine, takeRow_refused actReadLine _ _ _ _ _ _ (withLine_outside _ _ _ _ outside)]

/-! ## READ_EVENTS -/

/-- READ_EVENTS with one data octet n: the n oldest records for n in 1..16, else refused (R167). -/
theorem actReadEvents_value (p : PortId) (c t n : Octet) (s : State) :
    actReadEvents p (request c t [n]) s
      = if 1 ≤ n.toNat ∧ n.toNat ≤ 16 then
          accept (octet (s.port p).lost :: ((s.port p).queue.take n.toNat).flatMap Event.octets)
            (s.updPort p fun q => { q with queue := q.queue.drop n.toNat, lost := 0 })
        else refuse .range s :=
  withLength_ok _ _ _ _ rfl

/-- Settles O15: the two outcomes of `actReadEvents_value`, and the length check before them. -/
theorem readEventsRemovesTheOldest : Obligations.ReadEventsRemovesTheOldest := by
  unfold Obligations.ReadEventsRemovesTheOldest
  rintro p t n s u rfl
  refine ⟨fun low high => ?_, fun outside => ?_, fun d bad => ?_⟩
  · have taken := (actReadEvents_value p 0x03 t n s.boundaryFirst).trans (if_pos ⟨low, high⟩)
    rw [exec_readEvents, takeRow_accepted _ _ _ _ _ _ _ _ taken]
    rfl
  · have refused := (actReadEvents_value p 0x03 t n s.boundaryFirst).trans (if_neg (by omega))
    rw [exec_readEvents, takeRow_refused _ _ _ _ _ _ _ refused]
  · rw [exec_readEvents, takeRow_badLength actReadEvents_checksLength _ _ _ _ _ bad]

end Sys2Proof.Machine

namespace Sys2Proof.Machine

/-- Playback into a line stops, and into another goes on (R182). -/
theorem stopPlayback_eq (s : State) (n : LineId) : s.stopPlayback n = playbackStopped s n := by
  cases h : s.play with
  | none =>
    have keeps : s.play.filter (fun pl => pl.line != n) = s.play := by simp [h]
    rw [playbackStopped, keeps, State.stopPlayback, h]
    simp only [← h]
  | some pl =>
    by_cases into : pl.line = n
    · have stops : s.play.filter (fun pl => pl.line != n) = none := by simp [h, into]
      rw [playbackStopped, stops, State.stopPlayback, h]
      simp only [into, if_true]
    · have keeps : s.play.filter (fun pl => pl.line != n) = s.play := by simp [h, into]
      rw [playbackStopped, keeps, State.stopPlayback, h]
      simp only [into, if_false, ← h]

theorem playbackStopped_updLine (s : State) (n m : LineId) (f : Line → Line) :
    playbackStopped (s.updLine n f) m = (playbackStopped s m).updLine n f := rfl

@[simp] theorem line_playbackStopped (s : State) (n m : LineId) : (playbackStopped s m).line n = s.line n := rfl

/-- What a line gives up depends on its queue and emission alone. -/
theorem givenUp_updLine (s : State) (n : LineId) (f : Line → Line)
    (queue : (f (s.line n)).ds.queue = (s.line n).ds.queue) (es : (f (s.line n)).es = (s.line n).es) :
    givenUp (s.updLine n f) n = (givenUp s n).updLine n f := by
  unfold givenUp
  rw [line_updLine_self, queue, es]
  cases (s.line n).es.emission with
  | toneOn => cases (s.line n).es.generator <;> rfl
  | _ => rfl

@[simp] theorem line_givenUp (s : State) (n m : LineId) : (givenUp s n).line m = s.line m := by
  unfold givenUp
  cases (s.line n).es.emission with
  | toneOn => cases (s.line n).es.generator <;> rfl
  | _ => rfl

/-- The purge of all records and the cut of the emission: what the line holds is given up, and its parts in DS and ES are
those of reset (R81, R120). -/
theorem cutEmission_purgeAll (s : State) (n : LineId) :
    (s.purgeAll n).cutEmission n
      = (givenUp s n).updLine n fun l => { l with ds := { queue := [], inEmission := false }, es := {} } := by
  unfold State.purgeAll State.takeOff State.cutEmission givenUp State.leaveList State.freeGenerator
  cases he : (s.line n).es.emission with
  | toneOn =>
    cases hg : (s.line n).es.generator <;>
      (simp [State.line, State.updLine, State.updGen, State.updDs, State.updEs] at he hg ⊢; simp [he, hg])
  | _ => simp [State.line, State.updLine, State.updDs, State.updEs] at he ⊢; simp [he]

/-- A line reset leaves the tick the sampler's work (R15, log 24); the other parts are those of reset. -/
theorem lineAfterReset_eq (l : Line) (p0 : Nat) :
    lineAfterReset l p0
      = { l with
          ls := { l.ls with faultLatch := false }, pd := { period := p0 }, npw := {}
          ds := { queue := [], inEmission := false }, es := {}, due := l.due.afterLineReset } := by
  obtain ⟨ls, pd, pt, ds, npw, es, lat, mu, due⟩ := l
  cases due <;> rfl

/-- A line reset as one update of its line, after what the line holds has been given up (R155). -/
theorem lineReset_eq (u : State) (n : LineId) :
    u.lineReset n
      = (playbackStopped (givenUp u n) n).updLine n fun l =>
          lineAfterReset l (u.profiles[l.pt.profileIndex].periodInitial * 16) := by
  unfold State.lineReset State.resetDecoder State.clearWalk
  simp only [updLs_eq, updPd_eq, updNpw_eq, updLine_updLine]
  rw [cutEmission_purgeAll, givenUp_updLine _ _ _ rfl rfl, updLine_updLine, stopPlayback_eq, playbackStopped_updLine,
    setDue_eq, updLine_updLine]
  refine updLine_congr (playbackStopped (givenUp u n) n) n _ _ ?_
  simp only [line_updLine_self, State.liveEntry, line_playbackStopped, line_givenUp, profiles_updLine]
  rw [lineAfterReset_eq]

/-- A release as one update of its line, its record and its watch entry, after what the line holds has been given up
(R39). -/
theorem releaseLine_eq (s : State) (n : LineId) :
    s.releaseLine n
      = (((givenUp s n).updLine n fun x =>
          { x with
            pd := { x.pd.abandon with state := .loopOpen, seizeTimer := 0, breakTimer := 0, makeTimer := 0, flashMask := false }
            npw := {}
            ds := { queue := [], inEmission := false }
            es := {} }).send .released n 0 (s.line n).ds.queue.length (s.line n).pd.pulseCount).watchEntry n .brk
          (s.line n).pd.breakTimer .release := by
  unfold State.releaseLine State.clearWalk
  simp only [updPd_eq, updNpw_eq, updLine_updLine]
  rw [cutEmission_purgeAll, givenUp_updLine _ _ _ rfl rfl, updLine_updLine, line_updLine_self]

/-- The line context that a seizure leaves, with the live entry (R20, R63, R88, R108, R110). -/
def lineSeized (l : Line) (entry : Profile) : Line :=
  { l with
    pd := { l.pd with
      state := .make, inDigit := false, makeTimer := l.pd.seizeTimer, pulseCount := 0, flags := {}, seq := 0, tId := none
      seizeTimer := 0 }
    pt := { l.pt with snapshot := entry }
    npw := { stage := .dialling, node := Fin.ofNat 64 entry.planRoot }
    es := { l.es with
      gate := decide (l.lat.service = .test)
      autoTimer := if l.lat.service ≠ .test ∧ entry.autoProceed ≠ 0 then some 0 else none } }

/-- A seizure as one update of its line, its record and its watch entry (R20). -/
theorem seize_eq (s : State) (n : LineId) :
    s.seize n
      = ((s.updLine n fun l => lineSeized l (s.liveEntry n)).send .seized n 0 (s.line n).pt.profileIndex.val 0).watchEntry n
          .make (s.line n).pd.seizeTimer .seize := by
  unfold State.seize
  simp only [updPd_eq, updPt_eq, updNpw_eq, updEs_eq, updLine_updLine]
  rw [← send_updLine _ _ _ _ _ _ _ (by rfl), updLine_updLine]
  simp only [line_send, line_updLine_self]
  congr 2
  refine updLine_congr s n _ _ ?_
  simp [State.liveEntry, lineSeized, beq_eq_decide]
  congr

/-- The state that the end of an on-phase leaves, its records and MU's part aside: the generator is free, the head is back
on the free list, the line is in TONE_OFF (R117). -/
def burstEnded (s : State) (n : LineId) (g : Fin 8) (head : DigitRecord) (rest : List DigitRecord) : State :=
  { (s.updGen g fun x => { x with holder := none }).updLine n fun x =>
      { x with
        ds := { queue := rest, inEmission := false }
        es := { x.es with emission := .toneOff, remaining := x.pt.snapshot.toneOff * 8, generator := none } } with
    freeList := s.freeList ++ [head.number] }

/-- DIGIT_EMITTED at the end of an on-phase, when digit_reports is ON (R118). -/
def emittedReported (s : State) (n : LineId) (g : Fin 8) (head : DigitRecord) : State :=
  if (s.line n).pt.snapshot.digitReports then s.send .digitEmitted n head.seq head.symbol.code g.val else s

theorem emittedReported_updLine (s : State) (n : LineId) (g : Fin 8) (head : DigitRecord) (f : Line → Line)
    (lat : (f (s.line n)).lat = (s.line n).lat) (pt : (f (s.line n)).pt = (s.line n).pt) :
    emittedReported (s.updLine n f) n g head = (emittedReported s n g head).updLine n f := by
  unfold emittedReported
  rw [line_updLine_self, pt]
  split
  · exact send_updLine _ _ _ _ _ _ _ lat
  · rfl

@[simp] theorem line_emittedReported (s : State) (n m : LineId) (g : Fin 8) (head : DigitRecord) :
    (emittedReported s n g head).line m = s.line m := by
  unfold emittedReported
  split <;> simp

@[simp] theorem gen_emittedReported (s : State) (n : LineId) (g k : Fin 8) (head : DigitRecord) :
    (emittedReported s n g head).gen k = s.gen k := by
  unfold emittedReported
  split <;> simp

theorem testBurst_updLine (s : State) (n : LineId) (g : Fin 8) (head : DigitRecord) (f : Line → Line)
    (lat : (f (s.line n)).lat = (s.line n).lat) (pt : (f (s.line n)).pt = (s.line n).pt) :
    (s.updLine n f).testBurst n g head = (s.testBurst n g head).updLine n f := by
  have record (c : Option CheckRecord) (k a b) :
      State.event { s.updLine n f with check := c } k n head.seq a b = State.event { s with check := c } k n head.seq a b := by
    show Event.mk _ _ ((s.updLine n f).line n).lat.epoch _ _ _ _ = _
    rw [line_updLine_self, lat]
    rfl
  unfold State.testBurst
  simp only [State.snapshot, line_updLine_self, pt, deliver_eq, record, gen_updLine]
  rfl

/-- The line's part in ES once its on-phase has ended (R117). -/
def toneOver (l : Line) : Line :=
  { l with es := { l.es with emission := .toneOff, remaining := l.pt.snapshot.toneOff * 8, generator := none } }

/-- The first two parts of the end of an on-phase: the generator and the head are free (R117). -/
def headFreed (s : State) (n : LineId) (g : Fin 8) (head : DigitRecord) (rest : List DigitRecord) : State :=
  { (s.updGen g fun x => { x with holder := none }).updLine n fun x =>
      { x with ds := { queue := rest, inEmission := false } } with
    freeList := s.freeList ++ [head.number] }

theorem burstEnded_eq (s : State) (n : LineId) (g : Fin 8) (head : DigitRecord) (rest : List DigitRecord) :
    burstEnded s n g head rest = (headFreed s n g head rest).updLine n toneOver := by
  simp [burstEnded, headFreed, toneOver, State.updLine, State.updGen]

/-- The end of an on-phase: the burst is over, DIGIT_EMITTED is sent, and MU takes its part for a line in TEST (R117). -/
theorem endOnPhase_eq (s : State) (n : LineId) (g : Fin 8) (head : DigitRecord) (rest : List DigitRecord) :
    s.endOnPhase n g head rest
      = if (s.line n).lat.service = .test then (emittedReported (burstEnded s n g head rest) n g head).testBurst n g head
        else emittedReported (burstEnded s n g head rest) n g head := by
  have freed : ((s.updGen g fun x => { x with holder := none }).takeOff n rest [head]).updDs n
      (fun d => { d with inEmission := false }) = headFreed s n g head rest := by
    simp [State.takeOff, headFreed, State.updLine, State.updGen, State.updDs]
  have ends (t : State) : t.updEs n (fun e =>
      { e with
        emission := .toneOff, remaining := (t.snapshot n).toneOff * Config.samplesPerMs, generator := none })
      = t.updLine n toneOver := updLine_congr _ _ _ _ rfl
  have service : ((headFreed s n g head rest).line n).lat = (s.line n).lat := by
    have same : (headFreed s n g head rest).line n = ((s.updGen g fun x => { x with holder := none }).updLine n fun x =>
      { x with ds := { queue := rest, inEmission := false } }).line n := rfl
    rw [same, line_updLine_self, line_updGen]
  rw [burstEnded_eq, emittedReported_updLine _ _ _ _ _ rfl rfl, testBurst_updLine _ _ _ _ _ rfl rfl]
  unfold State.endOnPhase
  simp only [freed]
  rw [ends]
  show (if ((emittedReported (headFreed s n g head rest) n g head).line n).lat.service = .test then
    (emittedReported (headFreed s n g head rest) n g head).testBurst n g head
    else emittedReported (headFreed s n g head rest) n g head).updLine n toneOver = _
  rw [line_emittedReported, service]
  split <;> rfl

end Sys2Proof.Machine

namespace Sys2Proof.Machine

/-! ## What each invariant reads of the state -/

/-- A port has at most taken event records in: its request and receiver stand, and its queue keeps the bounds of R165. -/
def Delivered (q q' : Port) : Prop :=
  q'.request = q.request ∧ q'.receiver = q.receiver
    ∧ (q.queue.length ≤ 64 ∧ q.lost ≤ 255 → q'.queue.length ≤ 64 ∧ q'.lost ≤ 255)

theorem Delivered.refl (q : Port) : Delivered q q := ⟨rfl, rfl, id⟩

theorem Delivered.accept (q : Port) (e : Event) : Delivered q (q.accept e) := by
  refine ⟨?_, ?_, accept_bounded q e⟩ <;> rcases accept_spec q e with ⟨_, h⟩ | ⟨_, h⟩ <;> rw [h]

/-- What the invariants ask of the new context of line `n` of `s`. By default the parts that they read are those of the old
context. -/
structure Follows (a : Prop) (s : State) (n : LineId) (l : Line) : Prop where
  estimate : ProfilesValid s →
      l.pt.snapshot.valid = true ∧ within Config.periodMin Config.periodMax l.pd.period = true := by
    exact fun h => h.2 _
  call : a → CallsConsistent s → l.callConsistent = true := by exact fun _ h => h _
  test : TestLinesSound s →
      l.lat.savedService ≠ .test ∧ (l.lat.service = .test ↔ l.mu.testLevel.isSome = true) := by
    exact fun h => h.1 _
  inTest : (∀ pl : Playback, s.play = some pl → pl.line ≠ n)
      ∨ ((s.line n).lat.service = .test → l.lat.service = .test) := by
    exact .inr id

/-- The pool sees no change of line `n` of `s` in its new context. -/
structure Still (s : State) (n : LineId) (l : Line) : Prop where
  generator : l.es.generator = (s.line n).es.generator := by rfl
  inEmission : l.ds.inEmission = (s.line n).ds.inEmission := by rfl
  toneOn : l.es.emission = .toneOn ↔ (s.line n).es.emission = .toneOn := by exact Iff.rfl
  waitingGen : l.es.emission = .waitingGen ↔ (s.line n).es.emission = .waitingGen := by exact Iff.rfl

/-- The record numbers on a line's queue. -/
def Line.numbers (l : Line) : List (Fin 256) := l.ds.queue.map DigitRecord.number

/-- A change of one line that concerns neither store nor pool. -/
structure Quiet (a : Prop) (s : State) (n : LineId) (l : Line) : Prop extends Follows a s n l, Still s n l where
  numbers : l.numbers = (s.line n).numbers := by rfl

/-- From `s` to `t` the tables, playback and the pattern stand, the ports have at most taken records in, and every line
follows. -/
structure Calm (a : Prop) (s t : State) : Prop where
  profiles : t.profiles = s.profiles := by rfl
  pattern : t.pattern = s.pattern := by rfl
  play : t.play = s.play := by rfl
  ports : ∀ p, Delivered (s.port p) (t.port p) := by exact fun p => .refl _
  lines : ∀ n, Follows a s n (t.line n) := by exact fun _ => {}

/-- The transition from `s` to `t` keeps the seven invariants: the one of the calls under the assumption `a`, those of the
request buffers and of the test lines under the assumption `b`. -/
structure Keeps (a b : Prop) (s t : State) : Prop where
  profiles : ProfilesValid s → ProfilesValid t
  events : EventQueuesBounded s → EventQueuesBounded t
  store : StoreConserved s → StoreConserved t
  calls : a → CallsConsistent s → CallsConsistent t
  pool : PoolConsistent s → PoolConsistent t
  requests : b → RequestBuffersSound s → RequestBuffersSound t
  tests : b → TestLinesSound s → TestLinesSound t

theorem Keeps.refl {a b : Prop} (s : State) : Keeps a b s s := ⟨id, id, id, fun _ => id, id, fun _ => id, fun _ => id⟩

theorem Keeps.trans {a b : Prop} {s t u : State} (h : Keeps a b s t) (k : Keeps a b t u) : Keeps a b s u where
  profiles := k.profiles ∘ h.profiles
  events := k.events ∘ h.events
  store := k.store ∘ h.store
  calls ha := k.calls ha ∘ h.calls ha
  pool := k.pool ∘ h.pool
  requests hb := k.requests hb ∘ h.requests hb
  tests hb := k.tests hb ∘ h.tests hb

/-- Steps that each keep the invariants keep them together. -/
theorem Keeps.foldl {a b : Prop} {α : Type} {f : State → α → State} (h : ∀ t x, Keeps a b t (f t x)) (xs : List α) (s : State) :
    Keeps a b s (xs.foldl f s) := by
  induction xs generalizing s with
  | nil => exact .refl s
  | cons x rest ih => exact (h s x).trans (ih _)

/-- Store and pool aside, a calm transition keeps the invariants. -/
theorem Keeps.of_calm {a b : Prop} {s t : State} (h : Calm a s t) (store : StoreConserved s → StoreConserved t)
    (pool : PoolConsistent s → PoolConsistent t) : Keeps a b s t where
  store := store
  pool := pool
  profiles hs := ⟨fun i => by rw [h.profiles]; exact hs.1 i, fun n => (h.lines n).estimate hs⟩
  events hs p hp := (h.ports p).2.2 (hs p hp)
  calls ha hs n := (h.lines n).call ha hs
  requests _ hs p := by
    obtain ⟨request, receiver, _⟩ := h.ports p
    unfold Port.requestSound
    rw [request, receiver]
    exact hs p
  tests _ hs := by
    refine ⟨fun n => (h.lines n).test hs, by rw [h.pattern]; exact hs.2.1, fun pl playing => ?_⟩
    rw [h.play] at playing
    obtain ⟨inTest, within⟩ := hs.2.2 pl playing
    refine ⟨?_, by rw [h.pattern]; exact within⟩
    rcases (h.lines pl.line).inTest with elsewhere | stays
    · exact absurd rfl (elsewhere pl playing)
    · exact stays inTest

/-! ## The digit store -/

theorem storeConserved_of_same {s t : State} (free : t.freeList = s.freeList)
    (numbers : ∀ n, (t.line n).numbers = (s.line n).numbers) (hs : StoreConserved s) : StoreConserved t := by
  have same : t.recordNumbers = s.recordNumbers := by
    unfold State.recordNumbers
    rw [free]
    exact congrArg (s.freeList ++ ·) (List.flatMap_congr fun n _ => numbers n)
  unfold StoreConserved
  rw [same]
  exact hs

/-- The record numbers, those of one line put first. -/
theorem recordNumbers_perm (s : State) (n : LineId) :
    s.recordNumbers.Perm
      (s.freeList ++ (s.line n).numbers ++ (allLines.erase n).flatMap fun m => (s.line m).numbers) := by
  have first : allLines.Perm (n :: allLines.erase n) := List.perm_cons_erase (List.mem_finRange n)
  rw [List.append_assoc]
  exact (first.flatMap_right _).append_left _

/-- Records that move between one line's queue and the free list stay in the store (R71). -/
theorem storeConserved_of_move {s t : State} (n : LineId) (others : ∀ m, m ≠ n → (t.line m).numbers = (s.line m).numbers)
    (moved : (t.freeList ++ (t.line n).numbers).Perm (s.freeList ++ (s.line n).numbers)) (hs : StoreConserved s) :
    StoreConserved t := by
  have rest : ((allLines.erase n).flatMap fun m => (t.line m).numbers) = (allLines.erase n).flatMap fun m => (s.line m).numbers :=
    List.flatMap_congr fun m hm => others m ((List.nodup_finRange 32).mem_erase_iff.mp hm).1
  have toFirst := recordNumbers_perm t n
  rw [rest] at toFirst
  exact ((toFirst.trans (moved.append_right _)).trans (recordNumbers_perm s n).symm).trans hs

/-! ## The pool -/

theorem poolConsistent_of_same {s t : State} (holders : ∀ g, (t.gen g).holder = (s.gen g).holder)
    (list : t.waitingList = s.waitingList) (lines : ∀ n, Still s n (t.line n)) (hs : PoolConsistent s) : PoolConsistent t := by
  obtain ⟨held, tone, once, waits⟩ := hs
  refine ⟨fun n g => ?_, fun n => ?_, by rw [list]; exact once, fun n => ?_⟩
  · rw [(lines n).generator, holders]
    exact held n g
  · rw [(lines n).generator, (lines n).inEmission, (lines n).toneOn]
    exact tone n
  · rw [list, (lines n).waitingGen]
    exact waits n

/-! ## Changes that keep them all -/

/-- The lines change quietly, and of the rest only what no invariant reads. -/
theorem Keeps.of_quiet {a b : Prop} {s t : State} (lines : ∀ n, Quiet a s n (t.line n)) (profiles : t.profiles = s.profiles)
    (free : t.freeList = s.freeList) (holders : ∀ g, (t.gen g).holder = (s.gen g).holder)
    (list : t.waitingList = s.waitingList) (pattern : t.pattern = s.pattern) (play : t.play = s.play)
    (ports : ∀ p, Delivered (s.port p) (t.port p)) : Keeps a b s t :=
  .of_calm { profiles, pattern, play, ports, lines := fun n => (lines n).toFollows }
    (storeConserved_of_same free fun n => (lines n).numbers)
    (poolConsistent_of_same holders list fun n => (lines n).toStill)

/-- A change of what no invariant reads. -/
theorem Keeps.of_lines_eq {a b : Prop} {s t : State} (lines : t.lines = s.lines) (profiles : t.profiles = s.profiles)
    (free : t.freeList = s.freeList) (gens : t.gens = s.gens) (list : t.waitingList = s.waitingList)
    (pattern : t.pattern = s.pattern) (play : t.play = s.play) (ports : ∀ p, Delivered (s.port p) (t.port p)) :
    Keeps a b s t := by
  have line (n : LineId) : t.line n = s.line n := by rw [State.line, lines]; rfl
  exact .of_quiet (fun n => by rw [line n]; exact {}) profiles free (fun g => by rw [State.gen, gens]; rfl) list pattern play
    ports

/-- Of the contexts of the lines, that of `n` changes as it may. -/
theorem forall_line_updLine {P : LineId → Line → Prop} {s : State} {n : LineId} {f : Line → Line} (changed : P n (f (s.line n)))
    (others : ∀ m, P m (s.line m)) (m : LineId) : P m ((s.updLine n f).line m) := by
  rw [line_updLine]
  split
  · next same => rw [same]; exact changed
  · exact others m

/-- The context of one line is written, and the store and pool around it. -/
def State.oneLine (s : State) (n : LineId) (f : Line → Line) (free : List (Fin 256)) (gens : Vector Generator 8)
    (waiting joining : List LineId) : State :=
  { s.updLine n f with freeList := free, gens := gens, waiting := waiting, joining := joining }

theorem line_oneLine (s : State) (n m : LineId) (f : Line → Line) (free : List (Fin 256)) (gens : Vector Generator 8)
    (waiting joining : List LineId) : (s.oneLine n f free gens waiting joining).line m = (s.updLine n f).line m := rfl

theorem Calm.oneLine {a : Prop} (s : State) (n : LineId) (f : Line → Line) (free : List (Fin 256)) (gens : Vector Generator 8)
    (waiting joining : List LineId) (h : Follows a s n (f (s.line n))) :
    Calm a s (s.oneLine n f free gens waiting joining) where
  ports p := by cases p <;> exact .refl _
  lines := forall_line_updLine h fun _ => {}

/-- A change of one line, with records that move between its queue and the free list (R71). -/
theorem Keeps.oneLine {a b : Prop} (s : State) (n : LineId) (f : Line → Line) (free : List (Fin 256))
    (gens : Vector Generator 8) (waiting joining : List LineId) (follows : Follows a s n (f (s.line n)))
    (moved : (free ++ (f (s.line n)).numbers).Perm (s.freeList ++ (s.line n).numbers))
    (pool : PoolConsistent s → PoolConsistent (s.oneLine n f free gens waiting joining)) :
    Keeps a b s (s.oneLine n f free gens waiting joining) := by
  refine .of_calm (.oneLine s n f free gens waiting joining follows) (storeConserved_of_move n ?_ ?_) pool
  · exact fun m other => congrArg Line.numbers (line_updLine_of_ne s f other)
  · rw [line_oneLine, line_updLine_self]
    exact moved

/-- A change of one line that the pool does not see. -/
theorem Keeps.moveRecords {a b : Prop} (s : State) (n : LineId) (f : Line → Line) (free : List (Fin 256))
    (follows : Follows a s n (f (s.line n))) (still : Still s n (f (s.line n)))
    (moved : (free ++ (f (s.line n)).numbers).Perm (s.freeList ++ (s.line n).numbers)) :
    Keeps a b s { s.updLine n f with freeList := free } :=
  .oneLine s n f free s.gens s.waiting s.joining follows moved
    (poolConsistent_of_same (fun _ => rfl) rfl (forall_line_updLine (P := Still s) still fun _ => {}))

/-- A quiet change of one line. -/
theorem Keeps.updLine {a b : Prop} (s : State) (n : LineId) (f : Line → Line) (h : Quiet a s n (f (s.line n))) :
    Keeps a b s (s.updLine n f) :=
  .moveRecords s n f s.freeList h.toFollows h.toStill (by rw [h.numbers])

end Sys2Proof.Machine

namespace Sys2Proof.Machine

/-! ## Records, the ring, the store, the waiting list -/

/-- R87 for one line, as propositions. -/
theorem callConsistent_iff (l : Line) :
    l.callConsistent = true
      ↔ (l.npw.stage = .idle ↔ l.pd.state = .loopOpen ∨ l.pd.state = .seizePending)
        ∧ (l.npw.held = true ∨ l.npw.completePending = true → l.npw.stage = .dialling)
        ∧ ¬ (l.npw.held = true ∧ l.npw.completePending = true)
        ∧ (l.npw.stage = .idle →
            l.ds.queue = [] ∧ l.es.gate = false ∧ l.es.autoTimer = none ∧ l.es.emission = .idle) := by
  unfold Line.callConsistent
  simp only [Bool.and_eq_true, Bool.or_eq_true, Bool.not_eq_true', beq_iff_eq, bne_iff_ne, Bool.and_eq_false_iff,
    Bool.or_eq_false_iff, List.isEmpty_iff, Option.isNone_iff_eq_none]
  rw [Bool.eq_iff_iff]
  simp only [Bool.or_eq_true, beq_iff_eq]
  cases l.npw.held <;> cases l.npw.completePending <;> simp <;> tauto

section
variable {a b : Prop} (s : State) (n : LineId)

theorem Keeps.deliver (p : PortId) (e : Event) : Keeps a b s (s.deliver p e) := by
  refine .of_lines_eq ?_ ?_ ?_ ?_ ?_ ?_ ?_ fun q => ?_
  case refine_8 =>
    rw [deliver_eq, port_updPort]
    split
    · next same => rw [same]; exact .accept _ _
    · exact .refl _
  all_goals cases p <;> rfl

theorem Keeps.send (k : EventKind) (q : BitVec 8) (x y : Nat) : Keeps a b s (s.send k n q x y) :=
  .foldl (fun t p => .deliver t p _) _ _

theorem Keeps.sendAll (k : EventKind) (x : Nat) : Keeps a b s (s.sendAll k x) :=
  (Keeps.deliver _ _ _).trans ((Keeps.deliver _ _ _).trans (.deliver _ _ _))

theorem Keeps.watchEntry (k : Level) (d : Nat) (v : Verdict) : Keeps a b s (s.watchEntry n k d v) := by
  rcases watchEntry_spec s n k d v with h | ⟨_, h⟩
  · rw [h]; exact .refl s
  · rw [h]; exact .of_lines_eq rfl rfl rfl rfl rfl rfl rfl fun p => by cases p <;> exact .refl _

/-- Records of a line that go to the free list, the others staying; a line in IDLE has none (R71). -/
theorem Keeps.takeOff (kept gone : List DigitRecord) (whole : (kept ++ gone).Perm (s.line n).ds.queue) :
    Keeps a b s (s.takeOff n kept gone) := by
  refine .moveRecords s n (fun l => { l with ds := { l.ds with queue := kept } }) _ { call := fun _ hs => ?call } {} ?moved
  case call =>
    obtain ⟨state, flags, notBoth, idle⟩ := (callConsistent_iff _).mp (hs n)
    refine (callConsistent_iff _).mpr ⟨state, flags, notBoth, fun atIdle => ?_⟩
    obtain ⟨empty, rest⟩ := idle atIdle
    rw [empty, List.perm_nil, List.append_eq_nil_iff] at whole
    exact ⟨whole.1, rest⟩
  case moved =>
    rw [List.append_assoc]
    refine List.Perm.append_left _ (.trans List.perm_append_comm ?_)
    simpa [Line.numbers] using whole.map DigitRecord.number

/-- A record filled from the free list, for a line in a call (R74). -/
theorem Keeps.offer (o : Offer) (inCall : (s.line n).npw.stage ≠ .idle) : Keeps a b s (s.offer n o).2 := by
  rcases offer_spec s n o with ⟨_, h⟩ | ⟨_, _, h⟩ | ⟨r, rest, _, free, h⟩
  · rw [h]; exact .refl s
  · rw [h]; exact .refl s
  · rw [h]
    refine .moveRecords s n (fun l => { l with ds := { l.ds with queue := l.ds.queue ++ [o.record r] } }) rest
      { call := fun _ hs => ?call } {} ?moved
    case call =>
      obtain ⟨state, flags, notBoth, _⟩ := (callConsistent_iff _).mp (hs n)
      exact (callConsistent_iff _).mpr ⟨state, flags, notBoth, fun atIdle => absurd atIdle inCall⟩
    case moved =>
      have toFront := List.perm_append_singleton r (rest ++ (s.line n).numbers)
      rw [free]
      simpa [Line.numbers, Offer.record] using toFront

end

/-! ## The pool, line by line -/

/-- What a line's context `l` has to do with the pool and the waiting list, for line `n` (R77, R112, R114). -/
structure PoolAt (l : Line) (gens : Vector Generator 8) (list : List LineId) (n : LineId) : Prop where
  held : ∀ g : Fin 8, l.es.generator = some g ↔ gens[g].holder = some n
  tone : l.es.emission = .toneOn ↔ l.es.generator.isSome = true
  flag : l.ds.inEmission = true ↔ l.es.emission = .toneOn
  waits : n ∈ list ↔ l.es.emission = .waitingGen

theorem poolConsistent_iff (s : State) :
    PoolConsistent s ↔ s.waitingList.Nodup ∧ ∀ n, PoolAt (s.line n) s.gens s.waitingList n := by
  constructor
  · rintro ⟨held, tone, once, waits⟩
    exact ⟨once, fun n => ⟨held n, (tone n).1, (tone n).2, waits n⟩⟩
  · rintro ⟨once, at_⟩
    exact ⟨fun n => (at_ n).held, fun n => ⟨(at_ n).tone, (at_ n).flag⟩, once, fun n => (at_ n).waits⟩

/-- A transition of one line that moves nothing else in the pool keeps it consistent when it does so for that line. -/
theorem poolConsistent_oneLine (s : State) (n : LineId) (f : Line → Line) (free : List (Fin 256)) (gens : Vector Generator 8)
    (waiting joining : List LineId) (hs : PoolConsistent s) (once : (waiting ++ joining).Nodup)
    (holders : ∀ m, m ≠ n → ∀ g : Fin 8, gens[g].holder = some m ↔ s.gens[g].holder = some m)
    (list : ∀ m, m ≠ n → (m ∈ waiting ++ joining ↔ m ∈ s.waitingList))
    (here : PoolAt (f (s.line n)) gens (waiting ++ joining) n) :
    PoolConsistent (s.oneLine n f free gens waiting joining) := by
  refine (poolConsistent_iff _).mpr ⟨once, fun m => ?_⟩
  show PoolAt ((s.updLine n f).line m) gens (waiting ++ joining) m
  rw [line_updLine]
  split
  · next same => rw [same]; exact here
  · next other =>
    obtain ⟨held, tone, flag, waits⟩ := ((poolConsistent_iff s).mp hs).2 m
    exact ⟨fun g => by rw [holders m other]; exact held g, tone, flag, by rw [list m other]; exact waits⟩

/-! ## Requests and withdrawals -/

/-- The request conditions of R112, one by one. -/
theorem requests_iff (l : Line) :
    l.requests = true
      ↔ (l.lat.service = .inService ∨ l.lat.service = .test) ∧ (l.npw.stage = .dialling ∨ l.npw.stage = .conversation)
        ∧ l.es.gate = true ∧ ∃ head rest, l.ds.queue = head :: rest ∧ head.mark = .none := by
  unfold Line.requests
  cases hq : l.ds.queue with
  | nil => simp
  | cons head rest => simp [and_assoc]

theorem insertLine_perm (n : LineId) (l : List LineId) : (insertLine n l).Perm (n :: l) := by
  obtain ⟨ahead, behind, whole, inserted, _⟩ := insertLine_splits n l
  rw [inserted, whole]
  exact List.perm_middle

section
variable {a b : Prop} (s : State) (n : LineId)

/-- An IDLE line in a call joins the waiting list (R112). -/
theorem Keeps.join (idle : (s.line n).es.emission = .idle) (inCall : (s.line n).npw.stage ≠ .idle) :
    Keeps a b s { s.updEs n (fun e => { e with emission := .waitingGen }) with joining := insertLine n s.joining } := by
  refine .oneLine s n (fun l => { l with es := { l.es with emission := .waitingGen } }) s.freeList s.gens s.waiting
    (insertLine n s.joining) { call := fun _ hs => ?call } (.refl _) fun hs => ?pool
  case call =>
    obtain ⟨state, flags, notBoth, _⟩ := (callConsistent_iff _).mp (hs n)
    exact (callConsistent_iff _).mpr ⟨state, flags, notBoth, fun atIdle => absurd atIdle inCall⟩
  case pool =>
    obtain ⟨once, at_⟩ := (poolConsistent_iff s).mp hs
    obtain ⟨held, tone, flag, waits⟩ := at_ n
    rw [idle] at tone flag waits
    have joined : (s.waiting ++ insertLine n s.joining).Perm (n :: s.waitingList) :=
      ((insertLine_perm n s.joining).append_left _).trans List.perm_middle
    refine poolConsistent_oneLine s n _ s.freeList s.gens _ _ hs ?_ (fun _ _ _ => Iff.rfl)
      (fun m other => joined.mem_iff.trans (by simp [other])) ⟨held, ?_, ?_, ?_⟩
    · exact joined.nodup_iff.mpr (List.nodup_cons.mpr ⟨fun h => by simpa using waits.mp h, once⟩)
    · exact Iff.trans (by simp) tone
    · exact flag.trans (by simp)
    · exact joined.mem_iff.trans (by simp)

/-- A waiting line leaves the list (R113). -/
theorem Keeps.leave (waiting : (s.line n).es.emission = .waitingGen) :
    Keeps a b s ((s.leaveList n).updEs n fun e => { e with emission := .idle }) := by
  refine .oneLine s n (fun l => { l with es := { l.es with emission := .idle } }) s.freeList s.gens
    (s.waiting.filter (· != n)) (s.joining.filter (· != n)) { call := fun _ hs => ?call } (.refl _) fun hs => ?pool
  case call =>
    obtain ⟨state, flags, notBoth, idle⟩ := (callConsistent_iff _).mp (hs n)
    refine (callConsistent_iff _).mpr ⟨state, flags, notBoth, fun atIdle => ?_⟩
    simpa [waiting] using (idle atIdle).2.2.2
  case pool =>
    obtain ⟨once, at_⟩ := (poolConsistent_iff s).mp hs
    obtain ⟨held, tone, flag, waits⟩ := at_ n
    rw [waiting] at tone flag waits
    refine poolConsistent_oneLine s n _ s.freeList s.gens _ _ hs ?_ (fun _ _ _ => Iff.rfl) ?_ ⟨held, ?_, ?_, ?_⟩
    · rw [← List.filter_append]
      exact once.filter _
    · exact fun m other => (mem_leaveList s n m).trans (by simp [other])
    · exact Iff.trans (by simp) tone
    · exact flag.trans (by simp)
    · exact (mem_leaveList s n n).trans (by simp)

theorem Keeps.reviewRequest : Keeps a b s (s.reviewRequest n) := by
  rcases reviewRequest_spec s n with h | ⟨idle, requests, h⟩ | ⟨waiting, _, h⟩
  · rw [h]; exact .refl s
  · rw [h]
    obtain ⟨_, stage, _⟩ := (requests_iff _).mp requests
    exact .join s n idle (by rcases stage with h | h <;> simp [h])
  · rw [h]; exact .leave s n waiting

end

/-! ## Bursts -/

/-- When a generator is freed the others keep their holders. -/
theorem holder_freed (gens : Vector Generator 8) (g k : Fin 8) (n : LineId) :
    (gens.set g { gens[g] with holder := none })[k].holder = some n ↔ k ≠ g ∧ gens[k].holder = some n := by
  by_cases same : k = g
  · subst same; simp
  · have apart : (g : Nat) ≠ (k : Nat) := fun e => same (Fin.ext e.symm)
    simp [same, apart]

/-- A line out of any emission has no part in the pool. -/
theorem PoolAt.of_idle {l : Line} {gens : Vector Generator 8} {list : List LineId} {n : LineId} (es : l.es = {})
    (flag : l.ds.inEmission = false) (free : ∀ g : Fin 8, gens[g].holder ≠ some n) (out : n ∉ list) :
    PoolAt l gens list n := by
  refine ⟨fun g => ?_, ?_, ?_, ?_⟩
  · simpa [es] using free g
  · simp [es]
  · simp [es, flag]
  · simp [es, out]

section
variable {a b : Prop} (s : State) (n : LineId)

/-- The end of an on-phase: generator and head are given back (R117). -/
theorem Keeps.burstEnded (g : Fin 8) (head : DigitRecord) (rest : List DigitRecord)
    (tone : (s.line n).es.emission = .toneOn) (holds : (s.line n).es.generator = some g)
    (queue : (s.line n).ds.queue = head :: rest) : Keeps a b s (burstEnded s n g head rest) := by
  refine .oneLine s n (fun x =>
      { x with
        ds := { queue := rest, inEmission := false }
        es := { x.es with emission := .toneOff, remaining := x.pt.snapshot.toneOff * 8, generator := none } })
    (s.freeList ++ [head.number]) (s.gens.set g { s.gens[g] with holder := none }) s.waiting s.joining
    { call := fun _ hs => ?call } ?moved fun hs => ?pool
  case call =>
    obtain ⟨state, flags, notBoth, idle⟩ := (callConsistent_iff _).mp (hs n)
    refine (callConsistent_iff _).mpr ⟨state, flags, notBoth, fun atIdle => ?_⟩
    simpa [queue] using (idle atIdle).1
  case moved => simp [Line.numbers, queue]
  case pool =>
    obtain ⟨once, at_⟩ := (poolConsistent_iff s).mp hs
    obtain ⟨held, _, _, waits⟩ := at_ n
    refine poolConsistent_oneLine s n _ _ _ _ _ hs once ?_ (fun _ _ => Iff.rfl) ⟨fun k => ?_, ?_, ?_, ?_⟩
    · intro m other k
      rw [holder_freed]
      refine ⟨And.right, fun h => ⟨fun same => other ?_, h⟩⟩
      exact Option.some.inj (h.symm.trans (by rw [same]; exact (held g).mp holds))
    · rw [holder_freed]
      refine ⟨fun h => by simp at h, fun h => absurd ?_ h.1⟩
      exact Option.some.inj (((held k).mpr h.2).symm.trans holds)
    · simp
    · simp
    · exact waits.trans (by simp [tone])

/-- The end of a call: what the line holds is given up, and its parts in DS and ES are those of reset (R81, R120). -/
theorem Keeps.endCall (f : Line → Line) (follows : Follows a s n (f (s.line n)))
    (ds : (f (s.line n)).ds = { queue := [], inEmission := false }) (es : (f (s.line n)).es = {}) :
    Keeps a b s ((givenUp s n).updLine n f) := by
  have moved : (s.freeList ++ (s.line n).ds.queue.map DigitRecord.number ++ (f (s.line n)).numbers).Perm
      (s.freeList ++ (s.line n).numbers) := by
    simp [Line.numbers, ds]
  have flag : (f (s.line n)).ds.inEmission = false := by rw [ds]
  have quietly (gives : givenUp s n = { s with freeList := s.freeList ++ (s.line n).ds.queue.map DigitRecord.number })
      (notTone : (s.line n).es.emission ≠ .toneOn) (notWaiting : (s.line n).es.emission ≠ .waitingGen) :
      Keeps a b s ((givenUp s n).updLine n f) := by
    rw [gives]
    refine .oneLine s n f _ s.gens s.waiting s.joining follows moved fun hs => ?_
    obtain ⟨once, at_⟩ := (poolConsistent_iff s).mp hs
    obtain ⟨held, tone, _, waits⟩ := at_ n
    refine poolConsistent_oneLine s n f _ _ _ _ hs once (fun _ _ _ => Iff.rfl) (fun _ _ => Iff.rfl)
      (.of_idle es flag (fun g holds => ?_) fun h => notWaiting (waits.mp h))
    exact notTone (tone.mpr (by rw [(held g).mpr holds]; rfl))
  cases emission : (s.line n).es.emission with
  | idle => exact quietly (by rw [givenUp, emission]) (by simp [emission]) (by simp [emission])
  | toneOff => exact quietly (by rw [givenUp, emission]) (by simp [emission]) (by simp [emission])
  | waitingGen =>
    rw [givenUp, emission]
    refine .oneLine s n f _ s.gens (s.waiting.filter (· != n)) (s.joining.filter (· != n)) follows moved fun hs => ?_
    obtain ⟨once, at_⟩ := (poolConsistent_iff s).mp hs
    obtain ⟨held, tone, _, _⟩ := at_ n
    refine poolConsistent_oneLine s n f _ _ _ _ hs ?_ (fun _ _ _ => Iff.rfl)
      (fun m other => (mem_leaveList s n m).trans (by simp [other]))
      (.of_idle es flag (fun g holds => ?_) fun h => ((mem_leaveList s n n).mp h).2 rfl)
    · rw [← List.filter_append]
      exact once.filter _
    · have onTone := tone.mpr (by rw [(held g).mpr holds]; rfl)
      simp [emission] at onTone
  | toneOn =>
    cases holds : (s.line n).es.generator with
    | none =>
      rw [givenUp, emission, holds]
      refine .oneLine s n f _ s.gens s.waiting s.joining follows moved fun hs => ?_
      obtain ⟨_, at_⟩ := (poolConsistent_iff s).mp hs
      have held := (at_ n).tone.mp emission
      simp [holds] at held
    | some g =>
      rw [givenUp, emission, holds]
      refine .oneLine s n f _ (s.gens.set g { s.gens[g] with holder := none }) s.waiting s.joining follows moved
        fun hs => ?_
      obtain ⟨once, at_⟩ := (poolConsistent_iff s).mp hs
      obtain ⟨held, _, _, waits⟩ := at_ n
      refine poolConsistent_oneLine s n f _ _ _ _ hs once (fun m other k => ?_) (fun _ _ => Iff.rfl)
        (.of_idle es flag (fun k => ?_) fun h => by simpa [emission] using waits.mp h)
      · rw [holder_freed]
        refine ⟨And.right, fun h => ⟨fun same => other ?_, h⟩⟩
        exact Option.some.inj (h.symm.trans (by rw [same]; exact (held g).mp holds))
      · rw [Ne, holder_freed]
        exact fun h => h.1 (Option.some.inj (((held k).mpr h.2).symm.trans holds))

end

/-! ## Playback -/

section
variable {a b : Prop} (s : State)

/-- A change of the pattern and of playback concerns the test lines alone. -/
theorem Keeps.setPlay (pattern : Option (List Segment)) (play : Option Playback)
    (sound : b → TestLinesSound s → TestLinesSound { s with pattern := pattern, play := play }) :
    Keeps a b s { s with pattern := pattern, play := play } where
  profiles := id
  events h p hp := by cases p <;> exact h _ hp
  store := id
  calls _ := id
  pool := id
  requests _ h p := by cases p <;> [exact h .a; exact h .b; exact h .m]
  tests := sound

/-- Playback may stop, or go on as it stood (R182). -/
theorem Keeps.stopPlay (play : Option Playback) (from_ : ∀ pl, play = some pl → s.play = some pl) :
    Keeps a b s { s with play := play } :=
  .setPlay s s.pattern play fun _ h => ⟨h.1, h.2.1, fun pl playing => h.2.2 pl (from_ pl playing)⟩

theorem Keeps.playbackStopped (n : LineId) : Keeps a b s (playbackStopped s n) :=
  .stopPlay s _ fun _ playing => (Option.filter_eq_some_iff.mp playing).1

end

/-! ## The arbiter -/

/-- The context of a line that is granted a generator (R77, R116). -/
def lineGranted (g : Fin 8) (l : Line) : Line :=
  { l with
    es := { l.es with emission := .toneOn, remaining := l.pt.snapshot.toneOn * 8, generator := some g }
    ds := { l.ds with inEmission := true } }

/-- A grant to a line with a queue (R116). -/
theorem grant_cons {s : State} {n : LineId} {head : DigitRecord} {rest : List DigitRecord} (g : Fin 8)
    (queue : (s.line n).ds.queue = head :: rest) :
    s.grant n g
      = (s.updLine n (lineGranted g)).updGen g fun x =>
          x.setUp n head.symbol (s.snapshot n) ((s.line n).lat.service == .test) := by
  rw [State.grant, queue]
  simp only [updEs_eq, updDs_eq, updLine_updLine]
  exact congrArg (State.updGen · g _) (updLine_congr s n _ _ rfl)

/-- A grant to a line without a queue withdraws it (log 19). -/
theorem grant_nil {s : State} {n : LineId} (g : Fin 8) (queue : (s.line n).ds.queue = []) :
    s.grant n g = s.updLine n fun l => { l with es := { l.es with emission := .idle } } := by
  rw [State.grant, queue]
  rfl

theorem line_grant_of_ne (s : State) {n m : LineId} (g : Fin 8) (other : m ≠ n) : (s.grant n g).line m = s.line m := by
  cases queue : (s.line n).ds.queue with
  | nil => rw [grant_nil g queue, line_updLine_of_ne _ _ other]
  | cons head rest => rw [grant_cons g queue, line_updGen, line_updLine_of_ne _ _ other]

theorem gen_grant_of_ne (s : State) (n : LineId) {g k : Fin 8} (other : k ≠ g) : (s.grant n g).gen k = s.gen k := by
  cases queue : (s.line n).ds.queue with
  | nil => rw [grant_nil g queue, gen_updLine]
  | cons head rest => rw [grant_cons g queue, gen_updGen, if_neg other, gen_updLine]

theorem holder_set (gens : Vector Generator 8) (g k : Fin 8) (x : Generator) :
    (gens.set g x)[k].holder = if k = g then x.holder else gens[k].holder := by
  by_cases same : k = g
  · subst same; simp
  · have apart : (g : Nat) ≠ (k : Nat) := fun e => same (Fin.ext e.symm)
    simp [same, apart]

/-- A grant moves the pool from a state in which the line still heads the list to one in which it has left it (R115). -/
theorem poolConsistent_grant (s : State) (n : LineId) (g : Fin 8) (list : List LineId) (free : (s.gen g).holder = none)
    (hs : PoolConsistent { s with waiting := n :: list }) : PoolConsistent { s.grant n g with waiting := list } := by
  obtain ⟨once, at_⟩ := (poolConsistent_iff _).mp hs
  obtain ⟨held, tone, flag, waits⟩ : PoolAt (s.line n) s.gens (n :: list ++ s.joining) n := at_ n
  obtain ⟨notIn, rest⟩ : n ∉ list ++ s.joining ∧ (list ++ s.joining).Nodup := List.nodup_cons.mp once
  have waiting : (s.line n).es.emission = .waitingGen := waits.mp (by simp)
  have noGen : (s.line n).es.generator = none := by simpa [waiting] using tone
  have members (m : LineId) (other : m ≠ n) :
      m ∈ list ++ s.joining ↔ m ∈ ({ s with waiting := n :: list } : State).waitingList := by
    simp [State.waitingList, other]
  cases queue : (s.line n).ds.queue with
  | nil =>
    rw [grant_nil g queue]
    refine poolConsistent_oneLine { s with waiting := n :: list } n (fun l => { l with es := { l.es with emission := .idle } })
      s.freeList s.gens list s.joining hs rest (fun _ _ _ => Iff.rfl) members
      ⟨held, iff_of_false (by simp) (by simp [State.line] at noGen ⊢; simp [noGen]), flag.trans (by simp [waiting]),
        iff_of_false notIn (by simp)⟩
  | cons head tail =>
    rw [grant_cons g queue]
    refine poolConsistent_oneLine { s with waiting := n :: list } n (lineGranted g) s.freeList (s.gens.set g _) list
      s.joining hs rest (fun m other k => ?_) members
      ⟨fun k => ?_, iff_of_true rfl rfl, iff_of_true rfl rfl, iff_of_false notIn (by simp [lineGranted])⟩
    · rw [holder_set]
      split
      · next same =>
        have before : (s.gen k).holder = none := by rw [same]; exact free
        exact iff_of_false (fun h => other (Option.some.inj h).symm) fun h => by cases before.symm.trans h
      · exact Iff.rfl
    · rw [holder_set]
      split
      · next same => exact iff_of_true (congrArg some same.symm) rfl
      · next apart =>
        refine iff_of_false (fun h => apart (Option.some.inj h).symm) fun h => ?_
        simpa [noGen] using (held k).mpr h

theorem waiting_grant (s : State) (n : LineId) (g : Fin 8) : (s.grant n g).waiting = s.waiting := by
  rw [grant_frame]

/-- Grants of free generators to the lines that head the list keep the pool consistent once those lines have left it. -/
theorem poolConsistent_grants (pairs : List (LineId × Fin 8)) (s : State) (once : (pairs.map Prod.snd).Nodup)
    (free : ∀ g ∈ pairs.map Prod.snd, (s.gen g).holder = none)
    (hs : PoolConsistent { s with waiting := pairs.map Prod.fst ++ s.waiting }) :
    PoolConsistent (pairs.foldl (fun t x => t.grant x.1 x.2) s) := by
  induction pairs generalizing s with
  | nil => exact hs
  | cons x rest ih =>
    obtain ⟨n, g⟩ := x
    obtain ⟨fresh, once⟩ := List.nodup_cons.mp once
    refine ih (s.grant n g) once (fun k hk => ?_) ?_
    · rw [gen_grant_of_ne s n fun same : k = g => fresh (show g ∈ _ from same ▸ hk)]
      exact free k (List.mem_cons_of_mem _ hk)
    · rw [waiting_grant]
      exact poolConsistent_grant s n g _ (free g (List.mem_cons_self ..)) hs

/-- What grants leave of a line: all but its emission and the in-emission flag; and a call stage in accord stays so. -/
structure GrantKeeps (l l' : Line) : Prop where
  pt : l'.pt = l.pt
  pd : l'.pd = l.pd
  lat : l'.lat = l.lat
  mu : l'.mu = l.mu
  queue : l'.ds.queue = l.ds.queue
  call : l.callConsistent = true → l'.callConsistent = true

theorem GrantKeeps.refl (l : Line) : GrantKeeps l l := ⟨rfl, rfl, rfl, rfl, rfl, id⟩

theorem GrantKeeps.trans {l l' l'' : Line} (h : GrantKeeps l l') (k : GrantKeeps l' l'') : GrantKeeps l l'' :=
  ⟨k.pt.trans h.pt, k.pd.trans h.pd, k.lat.trans h.lat, k.mu.trans h.mu, k.queue.trans h.queue, k.call ∘ h.call⟩

theorem grantKeeps_grant (s : State) (n m : LineId) (g : Fin 8) : GrantKeeps (s.line m) ((s.grant n g).line m) := by
  by_cases same : m = n
  · subst same
    cases queue : (s.line m).ds.queue with
    | nil =>
      rw [grant_nil g queue, line_updLine_self]
      refine ⟨rfl, rfl, rfl, rfl, rfl, fun hs => ?_⟩
      obtain ⟨state, flags, notBoth, idle⟩ := (callConsistent_iff _).mp hs
      refine (callConsistent_iff _).mpr ⟨state, flags, notBoth, fun atIdle => ?_⟩
      obtain ⟨empty, gate, timer, _⟩ := idle atIdle
      exact ⟨empty, gate, timer, rfl⟩
    | cons head rest =>
      rw [grant_cons g queue, line_updGen, line_updLine_self]
      refine ⟨rfl, rfl, rfl, rfl, rfl, fun hs => ?_⟩
      obtain ⟨state, flags, notBoth, idle⟩ := (callConsistent_iff _).mp hs
      refine (callConsistent_iff _).mpr ⟨state, flags, notBoth, fun atIdle => ?_⟩
      cases queue.symm.trans (idle atIdle).1
  · rw [line_grant_of_ne s g same]
    exact .refl _

theorem grantKeeps_grants (pairs : List (LineId × Fin 8)) (s : State) (m : LineId) :
    GrantKeeps (s.line m) ((pairs.foldl (fun t x => t.grant x.1 x.2) s).line m) := by
  induction pairs generalizing s with
  | nil => exact .refl _
  | cons x rest ih => exact (grantKeeps_grant s x.1 m x.2).trans (ih _)

theorem map_fst_zip_eq_take {α β : Type} (l : List α) (m : List β) : (l.zip m).map Prod.fst = l.take m.length := by
  induction l generalizing m with
  | nil => simp
  | cons x rest ih => cases m with
    | nil => rfl
    | cons y ys => simp [ih]

theorem map_snd_zip_eq_take {α β : Type} (l : List α) (m : List β) : (l.zip m).map Prod.snd = m.take l.length := by
  induction l generalizing m with
  | nil => simp
  | cons x rest ih => cases m with
    | nil => rfl
    | cons y ys => simp [ih]

theorem mem_freeGenerators (s : State) (g : Fin 8) : g ∈ s.freeGenerators ↔ (s.gen g).holder = none := by
  simp [State.freeGenerators, allGenerators]

theorem freeGenerators_nodup (s : State) : s.freeGenerators.Nodup := (List.nodup_finRange 8).filter _

/-- The arbiter's turn keeps the pool consistent (R115). -/
theorem poolConsistent_arbitrate (s : State) (hs : PoolConsistent s) : PoolConsistent s.arbitrate := by
  refine poolConsistent_grants _ _ ?_ (fun g hg => ?_) ?_
  · rw [map_snd_zip_eq_take]
    exact (freeGenerators_nodup s).sublist (List.take_sublist _ _)
  · rw [map_snd_zip_eq_take] at hg
    exact (mem_freeGenerators s g).mp (List.mem_of_mem_take hg)
  · rw [map_fst_zip_eq_take, List.take_append_drop]
    exact hs

/-- The arbiter's turn, where it is due, keeps the invariants (R115, R116). -/
theorem Keeps.boundaryFirst {a b : Prop} (s : State) : Keeps a b s s.boundaryFirst := by
  have kept (m : LineId) : GrantKeeps (s.line m) (s.boundaryFirst.line m) := by
    unfold State.boundaryFirst
    split
    · exact grantKeeps_grants _ { s with waiting := s.waiting.drop s.freeGenerators.length, arbiterDue := false } m
    · exact .refl _
  obtain ⟨lines, gens, waiting, frame⟩ := boundaryFirst_frame s
  refine .of_calm ⟨by rw [frame], by rw [frame], by rw [frame], fun p => by rw [frame]; cases p <;> exact .refl _,
    fun m => ?lines⟩ (storeConserved_of_same (by rw [frame]) fun m => ?numbers) fun hs => ?pool
  case lines =>
    obtain ⟨pt, pd, lat, mu, _, call⟩ := kept m
    exact ⟨fun h => by rw [pt, pd]; exact h.2 m, fun _ h => call (h m), fun h => by rw [lat, mu]; exact h.1 m,
      .inr fun h => by rw [lat]; exact h⟩
  case numbers => rw [Line.numbers, (kept m).queue, Line.numbers]
  case pool =>
    unfold State.boundaryFirst
    split
    · exact poolConsistent_arbitrate s hs
    · exact hs

end Sys2Proof.Machine

namespace Sys2Proof.Machine

section
variable {a b : Prop} (s : State) (n : LineId)

theorem Keeps.setDue (d : Due) : Keeps a b s (s.setDue n d) :=
  .updLine s n (fun l => { l with due := d }) {}

theorem Keeps.count (f : Statistics → Statistics) : Keeps a b s (s.count n f) :=
  .updLine s n (fun l => { l with mu := { l.mu with stats := f l.mu.stats } }) {}

theorem Keeps.updLs (f : LsLine → LsLine) : Keeps a b s (s.updLs n f) :=
  .updLine s n (fun l => { l with ls := f l.ls }) {}

/-- A change in PD keeps the invariants when the decoder stays in a call or out of it and P in its range (R46, R87). -/
theorem Keeps.updPd (f : PdLine → PdLine)
    (state : (f (s.line n).pd).state = .loopOpen ∨ (f (s.line n).pd).state = .seizePending
      ↔ (s.line n).pd.state = .loopOpen ∨ (s.line n).pd.state = .seizePending)
    (period : (f (s.line n).pd).period = (s.line n).pd.period
      ∨ within Config.periodMin Config.periodMax (f (s.line n).pd).period = true) : Keeps a b s (s.updPd n f) := by
  refine .updLine s n _ { estimate := fun hs => ⟨(hs.2 n).1, ?_⟩, call := fun _ hs => ?_ }
  · rcases period with same | inRange
    · exact same ▸ (hs.2 n).2
    · exact inRange
  · obtain ⟨was, rest⟩ := (callConsistent_iff _).mp (hs n)
    exact (callConsistent_iff _).mpr ⟨was.trans state.symm, rest⟩

/-- A change in NPW keeps the invariants when the line stays in a call or out of it, with its flags in accord (R87). -/
theorem Keeps.updNpw (f : NpwLine → NpwLine) (stage : (f (s.line n).npw).stage = .idle ↔ (s.line n).npw.stage = .idle)
    (flags : a → (s.line n).callConsistent = true →
      ((f (s.line n).npw).held = true ∨ (f (s.line n).npw).completePending = true → (f (s.line n).npw).stage = .dialling)
        ∧ ¬ ((f (s.line n).npw).held = true ∧ (f (s.line n).npw).completePending = true)) :
    Keeps a b s (s.updNpw n f) := by
  refine .updLine s n _ { call := fun ha hs => ?_ }
  obtain ⟨state, _, _, idle⟩ := (callConsistent_iff _).mp (hs n)
  obtain ⟨inDialling, notBoth⟩ := flags ha (hs n)
  exact (callConsistent_iff _).mpr ⟨stage.trans state, inDialling, notBoth, fun atIdle => idle (stage.mp atIdle)⟩

/-- What the walker counts and where it stands are not read by the invariants. -/
theorem Keeps.updNpw_quiet (f : NpwLine → NpwLine) (stage : (f (s.line n).npw).stage = (s.line n).npw.stage)
    (held : (f (s.line n).npw).held = (s.line n).npw.held)
    (pending : (f (s.line n).npw).completePending = (s.line n).npw.completePending) : Keeps a b s (s.updNpw n f) :=
  .updNpw s n f (by rw [stage]) fun _ hs => by
    obtain ⟨_, flags, notBoth, _⟩ := (callConsistent_iff _).mp hs
    rw [held, pending, stage]
    exact ⟨flags, notBoth⟩

/-! ## The walker -/

variable {s n}

theorem Keeps.toRejected (inCall : (s.line n).npw.stage ≠ .idle) : Keeps a b s (s.updNpw n NpwLine.toRejected) :=
  .updNpw s n _ (iff_of_false (by simp [NpwLine.toRejected]) inCall) fun _ _ => by simp [NpwLine.toRejected]

theorem Keeps.toConversation (inCall : (s.line n).npw.stage ≠ .idle) : Keeps a b s (s.updNpw n NpwLine.toConversation) :=
  .updNpw s n _ (iff_of_false (by simp [NpwLine.toConversation]) inCall) fun _ _ => by simp [NpwLine.toConversation]

variable (s n) in
theorem Keeps.purgeWaiting : Keeps a b s (s.purgeWaiting n) :=
  .takeOff s n _ _ (by rw [emitting_append_notEmitting])

theorem Keeps.reject (reason : RejectReason) (seq : BitVec 8) (inCall : (s.line n).npw.stage ≠ .idle) :
    Keeps a b s (s.reject n reason seq) :=
  (Keeps.toRejected inCall).trans <| (Keeps.purgeWaiting _ _).trans <| (Keeps.send _ _ _ _ _ _).trans <| .reviewRequest _ _

/-- An offer leaves the line's walk. -/
theorem npw_offer (s : State) (n : LineId) (o : Offer) : ((s.offer n o).2.line n).npw = (s.line n).npw := by
  rcases offer_spec s n o with ⟨_, h⟩ | ⟨_, _, h⟩ | ⟨r, rest, _, _, h⟩
  · rw [h]
  · rw [h]
  · rw [h]
    show ((s.updDs n fun d => { d with queue := d.queue ++ [o.record r] }).line n).npw = _
    rw [updDs_eq, line_updLine_self]

theorem Keeps.offerOrReject (o : Offer) (accepted : State → State) (inCall : (s.line n).npw.stage ≠ .idle)
    (goesOn : ∀ t : State, (t.line n).npw = (s.line n).npw → Keeps a b t (accepted t)) :
    Keeps a b s (s.offerOrReject n o accepted) := by
  have offered : Keeps a b s (s.offer n o).2 := .offer s n o inCall
  have walk := npw_offer s n o
  unfold State.offerOrReject
  split
  · next t h =>
    rw [h] at offered walk
    exact offered.trans ((goesOn t walk).trans (.reviewRequest _ _))
  · next t h =>
    rw [h] at offered walk
    exact offered.trans (.reject _ _ (by rw [walk]; exact inCall))

theorem Keeps.reachComplete (seq : BitVec 8) (dialling : (s.line n).npw.stage = .dialling)
    (held : (s.line n).npw.held = false) : Keeps a b s (s.reachComplete n seq) :=
  (Keeps.updNpw s n _ Iff.rfl fun _ _ => ⟨fun _ => dialling, by simp [held]⟩).trans (.send _ _ _ _ _ _)

theorem Keeps.reachHold (saved : Fin 64) (seq : BitVec 8) (symbol : Fin 10) (dialling : (s.line n).npw.stage = .dialling)
    (pending : a → (s.line n).npw.completePending = false) : Keeps a b s (s.reachHold n saved seq symbol) :=
  (Keeps.updNpw s n _ Iff.rfl fun ha _ => ⟨fun _ => dialling, by simp [pending ha]⟩).trans (.send _ _ _ _ _ _)

theorem Keeps.walk (d : Digit) (dialling : (s.line n).npw.stage = .dialling) (held : (s.line n).npw.held = false)
    (pending : (s.line n).npw.completePending = false) : Keeps a b s (s.walk n d) := by
  have inCall : (s.line n).npw.stage ≠ .idle := by simp [dialling]
  unfold State.walk
  split
  · exact .reject _ _ inCall
  · refine (Keeps.updNpw_quiet s n (fun w => { w with walked := w.walked + 1 }) rfl rfl rfl).trans ?_
    have stage : ((s.updNpw n fun w => { w with walked := w.walked + 1 }).line n).npw
        = { (s.line n).npw with walked := (s.line n).npw.walked + 1 } := by simp
    have inCall' : ((s.updNpw n fun w => { w with walked := w.walked + 1 }).line n).npw.stage ≠ .idle := by
      rw [stage]; exact inCall
    dsimp only
    split
    · exact .offerOrReject _ _ inCall' fun t _ => .updNpw_quiet t n _ rfl rfl rfl
    · exact .offerOrReject _ _ inCall' fun t ht => .reachComplete _ (by rw [ht, stage]; exact dialling) (by rw [ht, stage]; exact held)
    · exact .offerOrReject _ _ inCall' fun t ht =>
        .reachHold _ _ _ (by rw [ht, stage]; exact dialling) fun _ => by rw [ht, stage]; exact pending
    · exact .reject _ _ inCall'

theorem Keeps.digitToWalker (d : Digit) : Keeps a b s (s.digitToWalker n d) := by
  unfold State.digitToWalker
  split
  · next dialling =>
    refine (Keeps.updNpw_quiet s n (fun w => { w with digitSeen := true }) rfl rfl rfl).trans ?_
    have stage : ((s.updNpw n fun w => { w with digitSeen := true }).line n).npw
        = { (s.line n).npw with digitSeen := true } := by simp
    dsimp only
    split
    · exact .offerOrReject _ _ (by rw [stage]; simp [dialling]) fun t _ => .refl t
    · next free =>
      simp only [Bool.or_eq_true, not_or, Bool.not_eq_true] at free
      exact .walk d (by rw [stage]; exact dialling) free.1 free.2
  · exact .refl s
  · next conversation =>
    have offered : Keeps a b s (s.offer n (d.offer .none)).2 := .offer s n _ (by simp [conversation])
    split
    · next t h =>
      rw [h] at offered
      exact offered.trans (.reviewRequest _ _)
    · next t h =>
      rw [h] at offered
      exact offered.trans (.send _ _ _ _ _ _)
  · exact .refl s

/-! ## The re-walk of PLAN_RELEASE -/

theorem Keeps.remark (f : DigitRecord → Mark) : Keeps a b s (s.remark n f) := by
  refine .updLine s n (fun l => { l with ds := { l.ds with queue := l.ds.queue.map fun r => { r with mark := f r } } })
    { call := fun _ hs => ?_, numbers := ?_ }
  · obtain ⟨state, flags, notBoth, idle⟩ := (callConsistent_iff _).mp (hs n)
    refine (callConsistent_iff _).mpr ⟨state, flags, notBoth, fun atIdle => ?_⟩
    obtain ⟨empty, rest⟩ := idle atIdle
    exact ⟨by rw [empty]; rfl, rest⟩
  · simp [Line.numbers, Function.comp_def]

theorem npw_remark (s : State) (n : LineId) (f : DigitRecord → Mark) : ((s.remark n f).line n).npw = (s.line n).npw := by
  simp [State.remark]

/-- The re-walk of one record, for a line in DIALLING that is not held; that it is not complete-pending either is assumed
for the accord of the flags. -/
theorem Keeps.rewalkOne (r : DigitRecord) (symbol : Fin 10) (dialling : (s.line n).npw.stage = .dialling)
    (held : (s.line n).npw.held = false) (pending : a → (s.line n).npw.completePending = false) :
    Keeps a b s (s.rewalkOne n r symbol) := by
  have inCall : (s.line n).npw.stage ≠ .idle := by simp [dialling]
  unfold State.rewalkOne
  split
  · exact .reject _ _ inCall
  · refine (Keeps.updNpw_quiet s n (fun w => { w with walked := w.walked + 1 }) rfl rfl rfl).trans ?_
    have walk : ((s.updNpw n fun w => { w with walked := w.walked + 1 }).line n).npw
        = { (s.line n).npw with walked := (s.line n).npw.walked + 1 } := by simp
    dsimp only
    unfold State.remarkOne
    split
    · exact (Keeps.remark _).trans (.updNpw_quiet _ _ _ rfl rfl rfl)
    · exact (Keeps.remark _).trans
        (.reachComplete _ (by rw [npw_remark, walk]; exact dialling) (by rw [npw_remark, walk]; exact held))
    · exact (Keeps.remark _).trans
        (.reachHold _ _ _ (by rw [npw_remark, walk]; exact dialling) fun ha => by rw [npw_remark, walk]; exact pending ha)
    · exact .reject _ _ (by rw [walk]; exact inCall)

theorem Keeps.rewalk (records : List DigitRecord) (dialling : (s.line n).npw.stage = .dialling)
    (held : (s.line n).npw.held = false) (pending : a → (s.line n).npw.completePending = false) :
    Keeps a b s (s.rewalk n records).2 := by
  induction records generalizing s with
  | nil => exact .refl s
  | cons r rest ih =>
    unfold State.rewalk
    split
    · next d _ =>
      have one : Keeps a b s (s.rewalkOne n r d) := .rewalkOne r d dialling held pending
      dsimp only
      split
      · exact one
      · next goesOn =>
        simp only [Bool.or_eq_true, not_or, Bool.not_eq_true, bne_iff_ne, ne_eq, not_not] at goesOn
        obtain ⟨⟨held', pending'⟩, dialling'⟩ := goesOn
        exact one.trans (ih dialling' held' fun _ => pending')
    · exact ih dialling held pending

/-! ## The call timers and the phases of a burst -/

theorem Keeps.dialTimeout : Keeps a b s (s.dialTimeout n) := by
  unfold State.dialTimeout
  split
  · split
    · next runs =>
      have dialling : (s.line n).npw.stage = .dialling := by
        simp only [Line.timerRuns, Bool.and_eq_true, beq_iff_eq] at runs
        exact runs.1.1.1.1.1.1
      exact (Keeps.send _ _ _ _ _ _).trans ((Keeps.toConversation (by simp [dialling])).trans (.reviewRequest _ _))
    · exact .updNpw_quiet _ _ _ rfl rfl rfl
  · exact .refl s

/-- The gate of a line in a call, or with the auto-proceed timer running, may open (R109, R110). -/
theorem Keeps.openGate (inCall : (s.line n).npw.stage ≠ .idle ∨ (s.line n).es.autoTimer ≠ none) :
    Keeps a b s (s.openGate n) := by
  refine (Keeps.updLine s n (fun l => { l with es := { l.es with gate := true, autoTimer := none } })
    { call := fun _ hs => ?_ }).trans (.reviewRequest _ _)
  obtain ⟨state, flags, notBoth, idle⟩ := (callConsistent_iff _).mp (hs n)
  refine (callConsistent_iff _).mpr ⟨state, flags, notBoth, fun atIdle => ?_⟩
  rcases inCall with h | h
  · exact absurd atIdle h
  · exact absurd (idle atIdle).2.2.1 h

theorem Keeps.autoProceedExpiry : Keeps a b s (s.autoProceedExpiry n) := by
  unfold State.autoProceedExpiry
  split
  · next reached =>
    refine Keeps.openGate (.inr fun stopped => ?_)
    rw [Line.autoTimerReached, stopped] at reached
    simp at reached
  · exact .refl s

theorem Keeps.drainedQueue : Keeps a b s (s.drainedQueue n) := by
  unfold State.drainedQueue
  split
  · next at_ => exact .toConversation (by simp [at_.1])
  · exact .refl s

theorem Keeps.offPhaseEnd : Keeps a b s (s.offPhaseEnd n) := by
  unfold State.offPhaseEnd
  split
  · next due =>
    refine (Keeps.updLine s n (fun l => { l with es := { l.es with emission := .idle } }) ?_).trans ?_
    · refine { call := fun _ hs => ?_, toneOn := by simp [due.1], waitingGen := by simp [due.1] }
      obtain ⟨state, flags, notBoth, idle⟩ := (callConsistent_iff _).mp (hs n)
      refine (callConsistent_iff _).mpr ⟨state, flags, notBoth, fun atIdle => ?_⟩
      obtain ⟨empty, gate, timer, _⟩ := idle atIdle
      exact ⟨empty, gate, timer, rfl⟩
    · dsimp only
      split
      · exact Keeps.drainedQueue.trans (.reviewRequest _ _)
      · exact .reviewRequest _ _
  · exact .refl s

theorem Keeps.testBurst (g : Fin 8) (head : DigitRecord) : Keeps a b s (s.testBurst n g head) := by
  refine .trans ?_ (.deliver _ _ _)
  exact .of_lines_eq rfl rfl rfl rfl rfl rfl rfl fun p => by cases p <;> exact .refl _

theorem Keeps.emittedReported (g : Fin 8) (head : DigitRecord) : Keeps a b s (emittedReported s n g head) := by
  unfold Machine.emittedReported
  split
  · exact .send _ _ _ _ _ _
  · exact .refl s

theorem Keeps.onPhaseEnd : Keeps a b s (s.onPhaseEnd n) := by
  unfold State.onPhaseEnd
  split
  · next due =>
    split
    · next g head rest holds queue =>
      rw [endOnPhase_eq]
      have ended : Keeps a b s (Machine.emittedReported (Machine.burstEnded s n g head rest) n g head) :=
        (Keeps.burstEnded s n g head rest due.1 holds queue).trans (.emittedReported g head)
      split
      · exact ended.trans (.testBurst g head)
      · exact ended
    · exact .refl s
  · exact .refl s

/-! ## The hand of the loop state -/

/-- A change in PD within the decoder states of a call, or outside them, with P as it was. -/
theorem Keeps.updPd_of_state {x : DecoderState} (f : PdLine → PdLine) (before : (s.line n).pd.state = x)
    (state : (f (s.line n).pd).state = .loopOpen ∨ (f (s.line n).pd).state = .seizePending
      ↔ x = .loopOpen ∨ x = .seizePending)
    (period : (f (s.line n).pd).period = (s.line n).pd.period) : Keeps a b s (s.updPd n f) :=
  .updPd s n f (by rw [before]; exact state) (.inl period)

theorem Keeps.seizeAbort (h : (s.line n).pd.state = .seizePending) : Keeps a b s (s.seizeAbort n) := by
  unfold State.seizeAbort
  exact (Keeps.watchEntry s n _ _ _).trans (.updPd_of_state _ ((congrArg (·.pd.state) (line_watchEntry ..)).trans h) (by simp) rfl)

theorem Keeps.glitchMake (h : (s.line n).pd.state = .makePending) : Keeps a b s (s.glitchMake n) := by
  unfold State.glitchMake
  refine .trans (.watchEntry s n .make (s.line n).pd.makeTimer .glitch) (.trans ?_ ((Keeps.count _ _ _).trans (.setDue _ _ _)))
  exact .updPd_of_state _ ((congrArg (·.pd.state) (line_watchEntry ..)).trans h) (by simp) rfl

variable (s n) in
/-- An interval timer that counts a tick: the state of the decoder and P stand. -/
theorem Keeps.tick (f : PdLine → PdLine) (state : (f (s.line n).pd).state = (s.line n).pd.state)
    (period : (f (s.line n).pd).period = (s.line n).pd.period) : Keeps a b s (s.updPd n f) :=
  .updPd s n f (by rw [state]) (.inl period)

theorem Keeps.hand : Keeps a b s (s.hand n) := by
  unfold State.hand
  dsimp only
  split
  · exact .setDue _ _ _
  split
  case h_1 h =>
    split
    · exact (Keeps.updPd_of_state _ h (by simp) rfl).trans (.setDue _ _ _)
    · exact .setDue _ _ _
  case h_2 h =>
    refine .trans (.tick _ n (fun d => { d with seizeTimer := tickTimer d.seizeTimer }) rfl rfl) ?_
    split
    · exact .setDue _ _ _
    · exact (Keeps.seizeAbort (by simpa using h)).trans (.setDue _ _ _)
  case h_3 h =>
    refine .trans (.tick _ n (fun d => { d with makeTimer := tickTimer d.makeTimer }) rfl rfl) ?_
    split
    · exact .setDue _ _ _
    · exact (Keeps.updPd_of_state (x := .make) _ (by simpa using h) (by simp) rfl).trans (.setDue _ _ _)
  case h_4 h =>
    refine .trans (.tick _ n (fun d => { d with breakTimer := tickTimer d.breakTimer }) rfl rfl) ?_
    split
    · exact .setDue _ _ _
    split
    · exact (Keeps.updPd_of_state (x := .brk) _ (by simpa using h) (by simp) rfl).trans (.setDue _ _ _)
    · exact .setDue _ _ _
  case h_5 h =>
    refine .trans (.tick _ n (fun d => { d with makeTimer := tickTimer d.makeTimer }) rfl rfl) ?_
    split
    · exact .setDue _ _ _
    split
    · exact .glitchMake (by simpa using h)
    · exact .setDue _ _ _

/-! ## Seizure, confirmation, digits, release -/

theorem Keeps.seize : Keeps a b s (s.seize n) := by
  rw [seize_eq]
  refine (Keeps.updLine s n (fun l => lineSeized l (s.liveEntry n)) ?_).trans
    ((Keeps.send _ _ _ _ _ _).trans (.watchEntry _ _ _ _ _))
  exact { estimate := fun hs => ⟨hs.1 _, (hs.2 n).2⟩, call := fun _ _ => (callConsistent_iff _).mpr (by simp [lineSeized]) }

theorem Keeps.seizure : Keeps a b s (s.seizure n) := by
  unfold State.seizure
  split
  · exact (Keeps.setDue _ _ _).trans .seize
  · exact .refl s

theorem Keeps.glitchBreak (h : (s.line n).pd.state = .makePending) : Keeps a b s (s.glitchBreak n) := by
  unfold State.glitchBreak
  refine .trans ?_ ((Keeps.count _ _ _).trans (.watchEntry _ _ _ _ _))
  exact .updPd_of_state _ h (by simp) rfl

theorem within_iff (lo hi n : Nat) : within lo hi n = true ↔ lo ≤ n ∧ n ≤ hi := by
  simp [within]

theorem nextPeriod_within (p q : Nat) : within Config.periodMin Config.periodMax (nextPeriod p q) = true := by
  exact (within_iff _ _ _).mpr (clamp_range Config.periodMin Config.periodMax _ (by decide))

theorem Keeps.pulse (h : (s.line n).pd.state = .makePending) : Keeps a b s (s.pulse n) := by
  cases inDigit : (s.line n).pd.inDigit with
  | false =>
    rw [pulse_first s n inDigit]
    refine .trans ?_ (.watchEntry _ _ _ _ _)
    refine .updLine s n _ { call := fun _ hs => ?_ }
    obtain ⟨state, rest⟩ := (callConsistent_iff _).mp (hs n)
    exact (callConsistent_iff _).mpr ⟨state.trans (by simp [h, PdLine.toMake]), rest⟩
  | true =>
    rw [pulse_pair s n inDigit]
    refine .trans ?_ (.watchEntry _ _ _ _ _)
    refine .updLine s n _ { estimate := fun hs => ⟨(hs.2 n).1, nextPeriod_within _ _⟩, call := fun _ hs => ?_ }
    obtain ⟨state, rest⟩ := (callConsistent_iff _).mp (hs n)
    exact (callConsistent_iff _).mpr ⟨state.trans (by simp [h, PdLine.toMake]), rest⟩

variable (s n) in
theorem Keeps.abandonToMake (makeMin : Nat) (h : (s.line n).pd.state = .makePending) :
    Keeps a b s (s.updPd n fun x => x.abandon.toMake makeMin) :=
  .updPd_of_state _ h (by simp [PdLine.toMake]) rfl

theorem Keeps.breakError (h : (s.line n).pd.state = .makePending) : Keeps a b s (s.breakError n) := by
  unfold State.breakError
  exact (Keeps.abandonToMake s n _ h).trans <| (Keeps.send _ _ _ _ _ _).trans <| (Keeps.count _ _ _).trans (.watchEntry _ _ _ _ _)

theorem Keeps.offerFlash (seq : BitVec 8) (inCall : (s.line n).npw.stage ≠ .idle) : Keeps a b s (s.offerFlash n seq) := by
  have offered : Keeps a b s (s.offer n ⟨.fl, 0, {}, seq, s.timestamp, .none⟩).2 := .offer s n _ inCall
  unfold State.offerFlash
  split
  · next t h =>
    rw [h] at offered
    exact offered.trans (.reviewRequest _ _)
  · next t h =>
    rw [h] at offered
    exact offered.trans (.send _ _ _ _ _ _)

theorem Keeps.flash (h : (s.line n).pd.state = .makePending) : Keeps a b s (s.flash n) := by
  unfold State.flash
  refine .trans (.abandonToMake s n (s.snapshot n).makeMin h) ?_
  dsimp only
  split
  · exact (Keeps.count _ _ _).trans (.watchEntry _ _ _ _ _)
  · refine .trans (.tick _ n (fun x => { x with seq := (s.line n).pd.seq + 1, flashMask := true }) rfl rfl) ?_
    refine .trans (.send _ n .flash ((s.line n).pd.seq + 1) (capOctet ((s.line n).pd.b / 4)) (s.line n).pd.pulseCount) ?_
    refine .trans ?_ ((Keeps.count _ _ _).trans (.watchEntry _ _ _ _ _))
    split
    · next conversation => exact .offerFlash _ fun idle => by cases idle.symm.trans conversation.2
    · exact .refl _

theorem Keeps.classify (h : (s.line n).pd.state = .makePending) : Keeps a b s (s.classify n) := by
  unfold State.classify
  split
  · exact (Keeps.glitchBreak h).trans (.setDue _ _ _)
  · exact .pulse h
  · exact .breakError h
  · exact .flash h

theorem Keeps.makeConfirmed : Keeps a b s (s.makeConfirmed n) := by
  unfold State.makeConfirmed
  split
  · next due => exact (Keeps.setDue _ _ _).trans (.classify (by simpa using due.2.1))
  · exact .refl s

theorem Keeps.completeDigit : Keeps a b s (s.completeDigit n) := by
  unfold State.completeDigit
  refine .trans (.tick _ n (fun x => { x.abandon with seq := (s.line n).pd.seq + 1 }) rfl rfl) ?_
  refine .trans (.watchEntry _ n .make (s.line n).pd.makeTimer .interDigit) ?_
  dsimp only
  split
  · unfold State.validDigit
    refine .trans (.count _ n Statistics.addDigit) ?_
    refine .trans ?_ (.digitToWalker _)
    dsimp only
    split
    · exact .send _ _ _ _ _ _
    · exact .refl _
  · exact (Keeps.count _ _ _).trans (.send _ _ _ _ _ _)

theorem Keeps.digitComplete : Keeps a b s (s.digitComplete n) := by
  unfold State.digitComplete
  split
  · exact (Keeps.setDue _ _ _).trans .completeDigit
  · exact .refl s

theorem Keeps.releaseLine : Keeps a b s (s.releaseLine n) := by
  rw [releaseLine_eq]
  refine .trans (.endCall s n _ ?_ rfl rfl) ((Keeps.send _ _ _ _ _ _).trans (.watchEntry _ _ _ _ _))
  exact { call := fun _ _ => (callConsistent_iff _).mpr (by simp) }

theorem Keeps.release : Keeps a b s (s.release n) := by
  unfold State.release
  split
  · exact (Keeps.setDue _ _ _).trans .releaseLine
  · exact .refl s

/-- P0 of a valid entry lies in the range of P (R46, R47). -/
theorem periodInitial_within (e : Profile) (valid : e.valid = true) :
    within Config.periodMin Config.periodMax (e.periodInitial * 16) = true := by
  simp only [Profile.valid, Bool.and_eq_true] at valid
  have initial : within 60 160 e.periodInitial = true := by tauto
  obtain ⟨low, high⟩ := (within_iff _ _ _).mp initial
  exact (within_iff 960 2560 _).mpr ⟨by omega, by omega⟩

theorem Keeps.lineReset : Keeps a b s (s.lineReset n) := by
  rw [lineReset_eq, ← playbackStopped_updLine]
  refine .trans (.endCall s n _ ?_ rfl rfl) (.playbackStopped _ n)
  exact { estimate := fun hs => ⟨(hs.2 n).1, periodInitial_within _ (hs.1 _)⟩,
          call := fun _ _ => (callConsistent_iff _).mpr (by simp [lineAfterReset]) }

end

end Sys2Proof.Machine

namespace Sys2Proof.Machine

section
variable {a b : Prop} {s : State} {n : LineId}

/-! ## The loop sampler -/

theorem Keeps.settle (sample : Loop) (settleCount : Nat) : Keeps a b s (s.settle n sample settleCount) := by
  unfold State.settle
  split
  · exact (Keeps.updLs _ _ _).trans .hand
  · refine .trans (.updLs s n fun l => { l with candidate := l.candidate + 1 }) ?_
    dsimp only
    split
    · exact .setDue _ _ _
    · exact .hand

theorem Keeps.debouncedChange : Keeps a b s (s.debouncedChange n) := by
  unfold State.debouncedChange
  split
  · exact (Keeps.updLs _ _ _).trans .hand
  · exact .refl s

theorem Keeps.compareFault (kind : FaultKind) : Keeps a b s (s.compareFault n kind) := by
  unfold State.compareFault
  dsimp only
  split
  · exact .refl s
  · exact (Keeps.updLs _ _ _).trans (.send _ _ _ _ _ _)

theorem Keeps.scanLine (f : Vector Octet 65) : Keeps a b s (s.scanLine f n) := by
  unfold State.scanLine
  split
  · refine .trans (.compareFault (n := n) (FaultKind.ofOctet (frameStatus f n))) ?_
    dsimp only
    split
    · exact .settle _ _
    · exact .setDue _ _ _
  · exact .refl s

theorem Keeps.sampleTestLine : Keeps a b s (s.sampleTestLine n) := by
  unfold State.sampleTestLine
  split
  · exact .settle _ _
  · exact .refl s

/-- What LS counts of the scan frames is not read by the invariants. -/
theorem Keeps.scanCounters (missCount : Nat) (scanLoss scanRequested : Bool) :
    Keeps a b s { s with missCount := missCount, scanLoss := scanLoss, scanRequested := scanRequested } :=
  .of_lines_eq rfl rfl rfl rfl rfl rfl rfl fun p => by cases p <;> exact .refl _

theorem Keeps.endMissedRun : Keeps a b s s.endMissedRun := by
  unfold State.endMissedRun
  dsimp only
  split
  · exact (Keeps.sendAll _ _ _).trans (.scanCounters _ _ _)
  · exact .scanCounters _ _ _

theorem Keeps.takeGoodFrame (f : Vector Octet 65) : Keeps a b s (s.takeGoodFrame f) :=
  (Keeps.scanCounters _ _ _).trans <| Keeps.endMissedRun.trans <| .foldl (fun _ _ => .scanLine f) _ _

/-- The contexts of all lines change quietly, and no generator changes hands. -/
theorem Keeps.setLines (lines : Vector Line 32) (gens : Vector Generator 8) (sUp lDown : Vector Sample 32)
    (quiet : ∀ n : LineId, Quiet a s n lines[n]) (holders : ∀ g : Fin 8, gens[g].holder = (s.gen g).holder) :
    Keeps a b s { s with lines := lines, gens := gens, sUp := sUp, lDown := lDown } :=
  .of_quiet quiet rfl rfl holders rfl rfl rfl fun p => by cases p <;> exact .refl _

theorem Keeps.ofFn (f : LineId → Line) (h : ∀ n, Quiet a s n (f n)) : Keeps a b s { s with lines := Vector.ofFn f } :=
  .setLines (Vector.ofFn f) s.gens s.sUp s.lDown (fun n => by simpa using h n) fun _ => rfl

theorem Keeps.takeMissedFrame : Keeps a b s s.takeMissedFrame := by
  refine .trans (.ofFn (fun n => (s.line n).freeze) fun n => ?_) (.scanCounters _ _ _)
  unfold Line.freeze
  split <;> exact {}

theorem Keeps.scanLossReached : Keeps a b s s.scanLossReached := by
  unfold State.scanLossReached
  split
  · exact (Keeps.sendAll _ _ _).trans (.scanCounters _ _ _)
  · exact .refl s

/-! ## The boundaries -/

theorem frameSample_quiet (s : State) (n : LineId) : Quiet a s n (s.line n).frameSample := by
  unfold Line.frameSample
  split
  · next on => exact { call := fun _ hs => (callConsistent_iff _).mpr ((callConsistent_iff _).mp (hs n)) }
  · next off => exact { call := fun _ hs => (callConsistent_iff _).mpr ((callConsistent_iff _).mp (hs n)) }
  · exact {}
  · exact {}

theorem holder_frameGenerator (s : State) (g : Generator) : (s.frameGenerator g).holder = g.holder := by
  unfold State.frameGenerator
  split
  · split <;> rfl
  · rfl

theorem Keeps.placeFrame (down up : Vector Sample 32) : Keeps a b s (s.placeFrame down up) :=
  .setLines _ _ _ _ (fun n => by simpa [State.line] using frameSample_quiet s n) fun g => by
    simpa [State.gen] using holder_frameGenerator s (s.gen g)

theorem currentSegment_some {pl : Playback} {seg : Segment} {len : Nat} (h : s.currentSegment = some (pl, seg, len)) :
    s.play = some pl ∧ ∃ segs, s.pattern = some segs ∧ segs[pl.segment]? = some seg ∧ len = segs.length := by
  unfold State.currentSegment at h
  split at h
  · next pl' segs playing pattern =>
    split at h
    · next seg' at_ =>
      obtain ⟨rfl, rfl, rfl⟩ : pl' = pl ∧ seg' = seg ∧ segs.length = len := by simpa using h
      exact ⟨playing, segs, pattern, at_, rfl⟩
    · cases h
  · cases h

theorem Keeps.feedPattern : Keeps a b s s.feedPattern := by
  unfold State.feedPattern
  split
  · next pl seg len current =>
    obtain ⟨playing, segs, pattern, at_, _⟩ := currentSegment_some current
    refine (Keeps.updLine s pl.line (fun l => { l with mu := { l.mu with testLevel := some seg.level } })
      { test := fun hs => ⟨(hs.1 _).1, iff_of_true (hs.2.2 pl playing).1 rfl⟩ }).trans ?_
    refine .setPlay _ s.pattern _ fun _ hs => ⟨hs.1, hs.2.1, fun pl' playing' => ?_⟩
    obtain rfl : { pl with elapsed := pl.elapsed + 1 } = pl' := by simpa using playing'
    exact hs.2.2 pl playing
  · exact .refl s

theorem Keeps.advanceSegment : Keeps a b s s.advanceSegment := by
  unfold State.advanceSegment
  split
  · next pl seg len current =>
    obtain ⟨playing, segs, pattern, _, rfl⟩ := currentSegment_some current
    split
    · next due =>
      refine .setPlay s s.pattern _ fun _ hs => ⟨hs.1, hs.2.1, fun pl' playing' => ?_⟩
      obtain rfl : { pl with segment := pl.segment + 1, elapsed := 0 } = pl' := by simpa using playing'
      exact ⟨(hs.2.2 pl playing).1, segs, pattern, due.2⟩
    · exact .refl s
  · exact .refl s

theorem Keeps.endPattern : Keeps a b s s.endPattern := by
  unfold State.endPattern
  split
  · split
    · exact (Keeps.stopPlay s none fun _ h => by cases h).trans (.deliver _ _ _)
    · exact .refl s
  · exact .refl s

theorem Keeps.finishLine : Keeps a b s (s.finishLine n) := by
  unfold State.finishLine
  refine .trans (.debouncedChange (n := n)) ?_
  refine .trans (.seizure (n := n)) ?_
  refine .trans (.makeConfirmed (n := n)) ?_
  refine .trans (.digitComplete (n := n)) ?_
  refine .trans (.release (n := n)) ?_
  dsimp only
  split
  · exact .setDue _ _ _
  · exact .refl _

theorem Keeps.finishFrame : Keeps a b s s.finishFrame := by
  unfold State.finishFrame
  refine .trans (.boundaryFirst s) ?_
  refine .trans (.foldl (fun t n => (Keeps.onPhaseEnd (n := n)).trans (.offPhaseEnd (n := n))) allLines _) ?_
  refine .trans (.foldl (fun t n => (Keeps.dialTimeout (n := n)).trans (.autoProceedExpiry (n := n))) allLines _) ?_
  refine .trans (.foldl (fun t n => Keeps.finishLine (n := n)) allLines _) ?_
  exact .trans .advanceSegment (.trans .endPattern .scanLossReached)

theorem Keeps.openFrame : Keeps a b s s.openFrame := by
  unfold State.openFrame State.advanceCounters
  dsimp only
  split <;>
    exact .of_lines_eq rfl rfl rfl rfl (by simp [State.waitingList]) rfl rfl fun p => by cases p <;> exact .refl _

theorem tickLine_quiet (s : State) (n : LineId) : Quiet a s n (s.tickLine n) := by
  have ticked (d : Due) : Quiet a s n { (s.line n).tickEndTimer.tickAutoTimer with due := d } := by
    unfold Line.tickEndTimer Line.tickAutoTimer
    refine { call := fun _ hs => ?_ }
    obtain ⟨state, flags, notBoth, idle⟩ := (callConsistent_iff _).mp (hs n)
    refine (callConsistent_iff _).mpr ⟨state, flags, notBoth, fun atIdle => ?_⟩
    obtain ⟨empty, gate, timer, emission⟩ := idle atIdle
    exact ⟨empty, gate, by simp [timer], emission⟩
  unfold State.tickLine
  dsimp only
  split
  · exact ticked (s.line n).due
  · exact ticked _
  · exact ticked _

theorem Keeps.tickWork : Keeps a b s s.tickWork := by
  unfold State.tickWork
  refine .trans .feedPattern ?_
  refine .trans (.ofFn s.feedPattern.tickLine fun n => tickLine_quiet _ n) ?_
  refine .trans (.scanCounters s.feedPattern.missCount s.feedPattern.scanLoss true) ?_
  exact .foldl (fun t n => .sampleTestLine (n := n)) allLines _

theorem Keeps.closeTick : Keeps a b s s.closeTick := by
  unfold State.closeTick
  split
  · exact Keeps.takeMissedFrame.trans .scanLossReached
  · exact .refl s

theorem Keeps.endFrame (down up : Vector Sample 32) : Keeps a b s (s.endFrame down up) := by
  unfold State.endFrame
  dsimp only
  split
  · exact Keeps.finishFrame.trans (.placeFrame _ _)
  · exact .finishFrame

theorem Keeps.frameSync (down up : Vector Sample 32) : Keeps a b s (s.frameSync down up) := by
  unfold State.frameSync
  refine .trans (.endFrame down up) ?_
  dsimp only
  split
  · exact .trans .closeTick (.trans .openFrame .tickWork)
  · exact .openFrame

end

end Sys2Proof.Machine

namespace Sys2Proof.Machine

section
variable {a b : Prop} {s t : State} {n : LineId}

/-! ## The checks that commands share -/

theorem Keeps.withLength {r : Request} {length : Nat} {rest : Reply × State} (h : r.length = length → Keeps a b s rest.2) :
    Keeps a b s (withLength r length s rest).2 := by
  unfold Machine.withLength
  split
  · next same => exact h same
  · exact .refl s

theorem Keeps.withLine {r : Request} {length : Nat} {rest : LineId → Reply × State} (h : ∀ n, Keeps a b s (rest n).2) :
    Keeps a b s (withLine r length s rest).2 := by
  refine .withLength fun _ => ?_
  split
  · exact h _
  · exact .refl s

theorem Keeps.onPortM {p : PortId} {rest : Reply × State} (h : Keeps a b s rest.2) : Keeps a b s (onPortM p s rest).2 := by
  unfold Machine.onPortM
  split
  · exact h
  · exact .refl s

theorem Keeps.permitted {check : Option Status} {rest : Reply × State} (h : Keeps a b s rest.2) :
    Keeps a b s (permitted check s rest).2 := by
  unfold Machine.permitted
  split
  · exact h
  · exact .refl s

theorem Keeps.callCommand {p : PortId} {r : Request} {rest : LineId → Reply × State} (h : ∀ n, Keeps a b s (rest n).2) :
    Keeps a b s (callCommand p r s rest).2 :=
  .withLine fun n => .permitted (h n)

theorem Keeps.maintenanceLine {p : PortId} {r : Request} {rest : LineId → Reply × State} (h : ∀ n, Keeps a b s (rest n).2) :
    Keeps a b s (maintenanceLine p r s rest).2 :=
  .withLine fun n => .onPortM (h n)

theorem Keeps.maintenance {p : PortId} {r : Request} {rest : Reply × State} (h : Keeps a b s rest.2) :
    Keeps a b s (maintenance p r s rest).2 :=
  .withLength fun _ => .onPortM h

/-- What R87 says of a line before a transition may be used of the calls after it. -/
theorem Keeps.assuming_call (n : LineId) (h : Keeps ((s.line n).callConsistent = true) b s t) : Keeps a b s t :=
  { h with calls := fun _ hs => h.calls (hs n) hs }

/-! ## The call commands -/

/-- What an action leaves of a state keeps the invariants. -/
def Action.Sound (a b : Prop) (act : Action) : Prop := ∀ p r s, Keeps a b s (act p r s).2

theorem actProceed_sound : actProceed.Sound a b := fun p r s => by
  refine .callCommand fun n => ?_
  split
  · exact .refl s
  · next inCall =>
    show Keeps a b s (if (s.line n).es.gate then s else s.openGate n)
    split
    · exact .refl s
    · exact .openGate (.inl inCall)

theorem Keeps.cutThrough (inCall : (s.line n).npw.stage ≠ .idle) : Keeps a b s (s.cutThrough n) := by
  unfold State.cutThrough
  refine .trans (.remark fun _ => .none) (.trans (.toConversation ?_) (.reviewRequest _ _))
  rw [npw_remark]
  exact inCall

theorem actCutThrough_sound : actCutThrough.Sound a b := fun p r s => by
  refine .callCommand fun n => ?_
  split
  · exact .refl s
  · exact .refl s
  · next h => exact .cutThrough (by simp [h])
  · next h => exact .cutThrough (by simp [h])

theorem onHold_iff (l : Line) : l.onHold = true ↔ l.npw.stage = .dialling ∧ l.npw.held = true := by
  simp [Line.onHold]

/-- The walk of a line after step 1 of R97. -/
theorem npw_endHold (s : State) (n : LineId) :
    ((s.endHold n).line n).npw = { (s.line n).npw with held := false, node := (s.line n).npw.savedNode } := by
  rw [State.endHold, npw_remark, updNpw_eq, line_updLine_self]

theorem Keeps.planRelease (hold : (s.line n).onHold = true) : Keeps a b s (s.planRelease n).2 := by
  obtain ⟨dialling, held⟩ := (onHold_iff _).mp hold
  refine .assuming_call n ?_
  have pending (consistent : (s.line n).callConsistent = true) : (s.line n).npw.completePending = false := by
    simpa [held] using ((callConsistent_iff _).mp consistent).2.2.1
  have ended : Keeps ((s.line n).callConsistent = true) b s (s.endHold n) := by
    refine .trans (.updNpw s n _ Iff.rfl fun consistent _ => ?_) (.remark _)
    exact ⟨fun _ => dialling, by simp⟩
  refine ended.trans (.trans (.rewalk _ ?_ ?_ fun consistent => ?_) (.reviewRequest _ _))
  · rw [npw_endHold]; exact dialling
  · rw [npw_endHold]
  · rw [npw_endHold]; exact pending consistent

theorem actPlanRelease_sound : actPlanRelease.Sound a b := fun p r s => by
  refine .callCommand fun n => ?_
  split
  · next hold => exact .planRelease hold
  · exact .refl s

theorem npw_takeOff (s : State) (n : LineId) (kept gone : List DigitRecord) :
    ((s.takeOff n kept gone).line n).npw = (s.line n).npw := by
  show ((s.updDs n fun d => { d with queue := kept }).line n).npw = _
  rw [updDs_eq, line_updLine_self]

theorem Keeps.planDiscard (hold : (s.line n).onHold = true) : Keeps a b s (s.planDiscard n) := by
  unfold State.planDiscard
  have inCall : (s.line n).npw.stage ≠ .idle := by simp [((onHold_iff _).mp hold).1]
  refine .trans (.takeOff s n _ _ (splitAtHeld_perm _)) (.trans (.toRejected ?_) ((Keeps.send _ _ _ _ _ _).trans (.reviewRequest _ _)))
  rw [npw_takeOff]
  exact inCall

theorem actPlanDiscard_sound : actPlanDiscard.Sound a b := fun p r s => by
  refine .callCommand fun n => ?_
  split
  · next hold => exact .planDiscard hold
  · exact .refl s

theorem actFlashAck_sound : actFlashAck.Sound a b := fun _ _ s =>
  .callCommand fun n => .tick s n (fun d => { d with flashMask := false }) rfl rfl

theorem actPurge_sound : actPurge.Sound a b := fun _ _ s =>
  .callCommand fun n => .trans (.purgeWaiting s n) (.reviewRequest _ n)

theorem actLineReset_sound : actLineReset.Sound a b := fun _ _ _ =>
  .withLine fun _ => .permitted .lineReset

/-! ## Configuration -/

/-- An entry that R59 reads has its fields in their ranges, so that the orders make it valid (R58). -/
theorem valid_of_ofOctets {d : List Octet} {e : Profile} (h : Profile.ofOctets d = some e) (ordered : e.ordered = true) :
    e.valid = true := by
  have clamped (lo hi x : Nat) (le : lo ≤ hi) : within lo hi (clamp lo hi x) = true :=
    (within_iff _ _ _).mpr (clamp_range lo hi x le)
  unfold Profile.ofOctets at h
  split at h
  · obtain rfl := Option.some.inj h
    simp only [Profile.valid, Bool.and_eq_true]
    refine ⟨?_, ordered⟩
    refine ⟨⟨⟨⟨⟨⟨⟨⟨⟨⟨⟨⟨⟨⟨⟨⟨⟨⟨⟨⟨⟨?_, ?_⟩, ?_⟩, ?_⟩, ?_⟩, ?_⟩, ?_⟩, ?_⟩, ?_⟩, ?_⟩, ?_⟩, ?_⟩, ?_⟩, ?_⟩, ?_⟩, ?_⟩, ?_⟩, ?_⟩, ?_⟩, ?_⟩,
      ?_⟩, ?_⟩ <;> exact clamped _ _ _ (by decide)
  · cases h

/-- A valid table of entries is written (R58). -/
theorem Keeps.setProfiles (profiles : Vector Profile 8) (valid : (∀ i : Fin 8, s.profiles[i].valid = true) → ∀ i : Fin 8, profiles[i].valid = true) :
    Keeps a b s { s with profiles := profiles } where
  profiles hs := ⟨valid hs.1, hs.2⟩
  events h p hp := by cases p <;> exact h _ hp
  store := id
  calls _ := id
  pool := id
  requests _ h p := by cases p <;> [exact h .a; exact h .b; exact h .m]
  tests _ := id

theorem valid_set (profiles : Vector Profile 8) (i : Fin 8) (e : Profile) (valid : e.valid = true)
    (others : ∀ i : Fin 8, profiles[i].valid = true) (k : Fin 8) : (profiles.set i e)[k].valid = true := by
  by_cases same : k = i
  · subst same; simpa using valid
  · have apart : (i : Nat) ≠ (k : Nat) := fun e => same (Fin.ext e.symm)
    simpa [apart] using others k

theorem actWriteProfile_sound : actWriteProfile.Sound a b := fun p r s => by
  refine .withLength fun _ => ?_
  split
  · exact .refl s
  split
  · exact .refl s
  · next e read =>
    split
    · next ordered => exact .setProfiles _ (valid_set _ _ _ (valid_of_ofOctets read ordered))
    · exact .refl s

theorem Keeps.setPlan (plan : Vector PlanNode 64) : Keeps a b s { s with plan := plan } :=
  .of_lines_eq rfl rfl rfl rfl rfl rfl rfl fun p => by cases p <;> exact .refl _

theorem actWritePlan_sound : actWritePlan.Sound a b := fun p r s => by
  refine .withLength fun _ => ?_
  split
  · exact .refl s
  split
  · exact .refl s
  · exact .setPlan _

theorem Keeps.assignProfile (i : Fin 8) : Keeps a b s (s.assignProfile n i) := by
  unfold State.assignProfile
  refine .trans (.updLine s n (fun l => { l with pt := { l.pt with profileIndex := i } }) {}) ?_
  refine .updLine _ n (fun l => { l with pd := { l.pd with period := _ } }) { estimate := fun hs => ⟨(hs.2 n).1, ?_⟩ }
  exact periodInitial_within _ (hs.1 _)

theorem actAssignProfile_sound : actAssignProfile.Sound a b := fun p r s => by
  refine .withLine fun n => ?_
  split
  · exact .refl s
  · refine .permitted ?_
    split
    · exact .assignProfile _
    · exact .refl s

/-! ## Ownership and service -/

theorem Keeps.changeOwner (new : Owner) (cause : OwnerCause) : Keeps a b s (s.changeOwner n new cause) := by
  unfold State.changeOwner
  refine .trans (.updLine s n (fun l => { l with lat := { l.lat with owner := new, epoch := l.lat.epoch + 1 } }) {}) ?_
  refine .trans (t := State.sendOwnerChange (s.updLat n fun l => { l with owner := new, epoch := l.epoch + 1 }) n
    (s.line n).lat.owner new cause) ?_ ?_
  · unfold State.sendOwnerChange
    split
    · exact .deliver _ _ _
    · exact .refl _
  · unfold State.sendSnapshot
    split
    · exact .deliver _ _ _
    · exact .refl _

theorem actClaim_sound : actClaim.Sound a b := fun p r s => by
  refine .withLine fun n => ?_
  split
  · exact .refl s
  split
  · exact Keeps.changeOwner (n := n) _ _
  split <;> exact .refl s

theorem actRelinquish_sound : actRelinquish.Sound a b := fun p r s => by
  refine .withLine fun n => ?_
  split
  · exact .refl s
  split
  · show Keeps a b s (s.changeOwner n .none .relinquish)
    exact .changeOwner _ _
  · exact .refl s

theorem actTakeover_sound : actTakeover.Sound a b := fun p r s => by
  refine .withLength fun _ => ?_
  split
  · split
    · exact .refl s
    · exact .foldl (fun t n => .changeOwner _ _) _ _
  split
  · exact .refl s
  split
  · exact .refl s
  split
  · exact .refl s
  · exact .changeOwner _ _

theorem actAssign_sound : actAssign.Sound a b := fun p r s => by
  refine .withLine fun n => ?_
  split
  · exact .refl s
  · next new _ =>
    refine .onPortM ?_
    show Keeps a b s (if (s.line n).lat.owner = new then s else s.changeOwner n new .assign)
    split
    · exact .refl s
    · exact .changeOwner _ _

/-- The context of a line after its reset. -/
theorem line_lineReset (s : State) (n : LineId) :
    (s.lineReset n).line n = lineAfterReset (s.line n) (s.profiles[(s.line n).pt.profileIndex].periodInitial * 16) := by
  rw [lineReset_eq, line_updLine_self, line_playbackStopped, line_givenUp]

theorem Keeps.serviceOut : Keeps a b s (s.serviceOut n) := by
  unfold State.serviceOut
  split
  · next inService =>
    refine Keeps.lineReset.trans (.updLine _ n (fun l => { l with lat := { l.lat with service := .outOfService } }) ?_)
    have notTest : ((s.lineReset n).line n).lat.service ≠ .test := by
      rw [line_lineReset]
      simp [lineAfterReset, inService]
    exact { test := fun hs => ⟨(hs.1 n).1, iff_of_false (by simp) (mt (hs.1 n).2.mpr notTest)⟩,
            inTest := .inr fun test => absurd test notTest }
  · exact .refl s

theorem Keeps.serviceIn : Keeps a b s (s.serviceIn n) := by
  unfold State.serviceIn
  split
  · next out =>
    have notTest : (s.line n).lat.service ≠ .test := by simp [out]
    exact .updLine s n (fun l => { l with lat := { l.lat with service := .inService } })
      { test := fun hs => ⟨(hs.1 n).1, iff_of_false (by simp) (mt (hs.1 n).2.mpr notTest)⟩,
        inTest := .inr fun test => absurd test notTest }
  · exact .refl s

theorem actSetService_sound : actSetService.Sound a b := fun p r s => by
  refine .withLine fun n => ?_
  split
  · exact .refl s
  split
  · exact .refl s
  · refine .permitted ?_
    show Keeps a b s (if r.value = 0 then s.serviceOut n else s.serviceIn n)
    split
    · exact .serviceOut
    · exact .serviceIn

/-! ## Maintenance -/

theorem Keeps.testEnter (notTest : (s.line n).lat.service ≠ .test) : Keeps a b s (s.testEnter n) := by
  refine .updLine s n _
    { estimate := fun hs => ?_, call := fun _ hs => ?_, test := fun _ => ⟨notTest, by simp⟩, inTest := .inr fun _ => rfl }
  · refine ⟨(hs.2 n).1, ?_⟩
    show within _ _ (s.line n).pd.enterTest.period = true
    unfold PdLine.enterTest
    split <;> exact (hs.2 n).2
  · obtain ⟨state, rest⟩ := (callConsistent_iff _).mp (hs n)
    refine (callConsistent_iff _).mpr ⟨state.trans ?_, rest⟩
    show _ ↔ (s.line n).pd.enterTest.state = .loopOpen ∨ (s.line n).pd.enterTest.state = .seizePending
    unfold PdLine.enterTest
    split <;> simp [*]

theorem actTestEnter_sound : actTestEnter.Sound a b := fun p r s => by
  refine .maintenanceLine fun n => ?_
  split
  · exact .refl s
  · next allowed => exact .testEnter fun test => allowed (.inl test)

/-- A line that no pattern feeds may leave TEST for its saved service state (R179). -/
theorem Keeps.leaveTest (s : State) (n : LineId) (stopped : ∀ pl, s.play = some pl → pl.line ≠ n) :
    Keeps a b s (s.updLine n fun l =>
      { l with
        lat := { l.lat with service := l.lat.savedService }, mu := { l.mu with testLevel := none }, due := .nothing }) :=
  .updLine s n _
    { test := fun hs => ⟨(hs.1 n).1, iff_of_false (hs.1 n).1 (by simp)⟩, inTest := .inl stopped }

theorem Keeps.testExit : Keeps a b s (s.testExit n) := by
  unfold State.testExit
  refine .trans (.debouncedChange (n := n)) (.trans .lineReset (.leaveTest _ n fun pl playing => ?_))
  rw [lineReset_eq] at playing
  simpa using (Option.filter_eq_some_iff.mp playing).2

theorem actTestExit_sound : actTestExit.Sound a b := fun p r s => by
  refine .maintenanceLine fun n => ?_
  split
  · exact .testExit
  · exact .refl s

theorem segmentsOfOctets_nil_iff {d : List Octet} (h : segmentsOfOctets d = some []) : d = [] := by
  unfold segmentsOfOctets at h
  split at h
  · rfl
  · split at h
    · dsimp only at h
      split at h <;> simp at h
    · cases h
  · cases h

theorem actLoadPattern_keeps (p : PortId) (r : Request) (s : State) (kept : b → r.data.length = min 80 r.length) :
    Keeps a b s (actLoadPattern p r s).2 := by
  unfold actLoadPattern
  split
  · next size =>
    split
    · exact .refl s
    · next segs read =>
      refine .onPortM ?_
      split
      · exact .refl s
      · next stopped =>
        refine .setPlay s (some segs) s.play fun hb hs => ⟨hs.1, fun none => ?_, fun pl playing => ?_⟩
        · rw [Option.some.inj none] at read
          have empty := kept hb
          rw [segmentsOfOctets_nil_iff read, List.length_nil] at empty
          omega
        · exact absurd (by rw [show s.play = some pl from playing]; rfl) stopped
  · exact .refl s

theorem actStartPattern_sound : actStartPattern.Sound a b := fun p r s => by
  refine .maintenanceLine fun n => ?_
  split
  · exact .refl s
  split
  · exact .refl s
  · next inTest =>
    split
    · exact .refl s
    · next segs loaded =>
      refine .setPlay s s.pattern _ fun _ hs => ⟨hs.1, hs.2.1, fun pl playing => ?_⟩
      obtain rfl := Option.some.inj playing
      refine ⟨not_not.mp inTest, segs, loaded, ?_⟩
      exact List.length_pos_iff.mpr fun empty => hs.2.1 (by rw [loaded, empty])

theorem actAbortPattern_sound : actAbortPattern.Sound a b := fun p r s =>
  .maintenance (.stopPlay s none fun _ h => by cases h)

theorem Keeps.setWatch (watched : Option LineId) (ring : List WatchEntry) :
    Keeps a b s { s with watched := watched, ring := ring } :=
  .of_lines_eq rfl rfl rfl rfl rfl rfl rfl fun p => by cases p <;> exact .refl _

theorem actWatch_sound : actWatch.Sound a b := fun p r s => by
  refine .withLength fun _ => ?_
  split
  · exact .refl s
  · exact .onPortM (.setWatch _ _)

theorem actReadWatch_sound : actReadWatch.Sound a b := fun _ _ s => .maintenance (.refl s)

theorem actReadCheck_sound : actReadCheck.Sound a b := fun _ _ s => .maintenance (.refl s)

theorem actReadStats_sound : actReadStats.Sound a b := fun _ _ s => .maintenanceLine fun n => .count s n fun _ => {}

/-! ## Resets -/

/-- A state in which no call, test or burst is in progress and no event waits, as the two resets leave it. -/
structure Fresh (s : State) : Prop where
  lines : s.lines = Vector.replicate 32 (Line.afterReset s.profiles[0])
  free : s.freeList = List.finRange 256
  holders : ∀ g, (s.gen g).holder = none
  list : s.waitingList = []
  pattern : s.pattern = none
  play : s.play = none
  queues : ∀ p, (s.port p).queue = [] ∧ (s.port p).lost = 0

theorem Fresh.line (h : Fresh s) (n : LineId) : s.line n = Line.afterReset s.profiles[0] := by
  simp [State.line, h.lines]

theorem Fresh.profilesValid (fresh : Fresh t) (entries : ∀ i : Fin 8, t.profiles[i].valid = true) : ProfilesValid t :=
  ⟨entries, fun n => by
    unfold State.snapshot
    rw [fresh.line n]
    exact ⟨entries 0, periodInitial_within _ (entries 0)⟩⟩

theorem Fresh.eventQueuesBounded (fresh : Fresh t) : EventQueuesBounded t := fun p _ => by
  obtain ⟨queue, lost⟩ := fresh.queues p
  simp [queue, lost]

theorem Fresh.storeConserved (fresh : Fresh t) : StoreConserved t := by
  have none : (allLines.flatMap fun n => (t.line n).ds.queue.map DigitRecord.number) = [] :=
    List.flatMap_eq_nil_iff.mpr fun n _ => by rw [fresh.line n]; rfl
  rw [StoreConserved, State.recordNumbers, fresh.free, none, List.append_nil]

theorem Fresh.callsConsistent (fresh : Fresh t) : CallsConsistent t := fun n => by rw [fresh.line n]; rfl

theorem Fresh.poolConsistent (fresh : Fresh t) : PoolConsistent t := by
  refine (poolConsistent_iff t).mpr ⟨by rw [fresh.list]; exact List.nodup_nil, fun n => ?_⟩
  rw [fresh.line n]
  refine .of_idle rfl rfl (fun g holds => ?_) (by simp [fresh.list])
  cases (fresh.holders g).symm.trans holds

theorem Fresh.testLinesSound (fresh : Fresh t) : TestLinesSound t := by
  refine ⟨fun n => by rw [fresh.line n]; simp [Line.afterReset], by simp [fresh.pattern], fun pl playing => ?_⟩
  cases fresh.play.symm.trans playing

/-- A transition to a fresh state whose profile entries are valid and whose request buffers stay sound. -/
theorem Fresh.keeps (fresh : Fresh t) (entries : ProfilesValid s → ∀ i : Fin 8, t.profiles[i].valid = true)
    (requests : b → RequestBuffersSound s → RequestBuffersSound t) : Keeps a b s t where
  profiles hs := fresh.profilesValid (entries hs)
  events _ := fresh.eventQueuesBounded
  store _ := fresh.storeConserved
  calls _ _ := fresh.callsConsistent
  pool _ := fresh.poolConsistent
  requests := requests
  tests _ _ := fresh.testLinesSound

theorem fresh_partReset (s : State) : Fresh s.partReset where
  lines := rfl
  free := by simp only [State.partReset]
  holders g := by simp [State.partReset, State.gen, Generator.free]
  list := rfl
  pattern := rfl
  play := rfl
  queues p := by cases p <;> exact ⟨rfl, rfl⟩

theorem Keeps.partReset : Keeps a b s s.partReset := by
  refine (fresh_partReset s).keeps And.left fun _ hs p => ?_
  cases p <;> [exact hs .a; exact hs .b; exact hs .m]

theorem actPartReset_sound : actPartReset.Sound a b := fun _ _ _ => .maintenance .partReset

theorem fresh_powerOn (s : State) : Fresh s.powerOn where
  lines := by
    simp [State.powerOn, State.reset]
  free := by simp only [State.powerOn, State.reset]
  holders g := by simp [State.powerOn, State.reset, State.gen]
  list := rfl
  pattern := rfl
  play := rfl
  queues p := by cases p <;> exact ⟨rfl, rfl⟩

/-- A port with an empty request buffer outside any frame. -/
theorem requestSound_idle {q : Port} (request : q.request = {}) : q.requestSound := by
  unfold Port.requestSound
  rw [request]
  exact ⟨rfl, fun _ => ⟨rfl, rfl⟩, fun _ l h => by cases h⟩

theorem entries_reset (i : Fin 8) : State.reset.profiles[i].valid = true := by
  simp [State.reset]
  decide

theorem Keeps.powerOn : Keeps a b s s.powerOn := by
  refine (fresh_powerOn s).keeps (fun _ => entries_reset) fun _ _ p => ?_
  cases p <;> exact requestSound_idle rfl

end

end Sys2Proof.Machine

namespace Sys2Proof.Machine

section
variable {a b : Prop} {s : State} {n : LineId}

/-! ## The ports -/

/-- A change of one port keeps the invariants when it keeps the bounds of its queue and its request buffer (R159, R165). -/
theorem Keeps.updPort (p : PortId) (f : Port → Port)
    (events : (s.port p).queue.length ≤ 64 ∧ (s.port p).lost ≤ 255 →
      (f (s.port p)).queue.length ≤ 64 ∧ (f (s.port p)).lost ≤ 255)
    (requests : b → (s.port p).requestSound → (f (s.port p)).requestSound) : Keeps a b s (s.updPort p f) where
  profiles h := by cases p <;> exact h
  store h := by cases p <;> exact h
  calls _ h := by cases p <;> exact h
  pool h := by cases p <;> exact h
  tests _ h := by cases p <;> exact h
  events h q hq := by
    rw [port_updPort]
    split
    · next same => subst same; exact events (h _ hq)
    · exact h q hq
  requests hb h q := by
    rw [port_updPort]
    split
    · next same => subst same; exact requests hb (h _)
    · exact h q

theorem Keeps.lowerSelect (p : PortId) : Keeps a b s (s.updPort p Port.lowerSelect) := by
  refine .updPort p _ (fun h => ?_) fun _ h => ?_
  · unfold Port.lowerSelect
    split <;> exact h
  · unfold Port.lowerSelect
    split
    · exact h
    · exact requestSound_idle rfl

theorem Keeps.raiseSelect (p : PortId) : Keeps a b s (s.updPort p Port.raiseSelect) := by
  refine .updPort p _ (fun h => ?_) fun _ h => ?_
  · unfold Port.raiseSelect
    split <;> exact h
  · unfold Port.raiseSelect
    split
    · exact requestSound_idle rfl
    · exact h

/-- Outside REQUEST the last clause of the soundness is empty. -/
theorem requestSound_of_not_request {q q' : Port} (request : q'.request = q.request) (receiver : q'.receiver ≠ .request)
    (h : q.requestSound) : q'.requestSound := by
  obtain ⟨kept, empty, _⟩ := h
  unfold Port.requestSound
  rw [request]
  exact ⟨kept, empty, fun h => absurd h receiver⟩

theorem Keeps.drive (p : PortId) (response : (s.port p).receiver = .response) : Keeps a b s (s.updPort p Port.drive) := by
  refine .updPort p _ (fun h => ?_) fun _ h => ?_
  · unfold Port.drive
    split <;> exact h
  · unfold Port.drive
    split
    · exact h
    · refine requestSound_of_not_request (q := s.port p) rfl ?_ h
      dsimp only
      split <;> simp

/-- An octet that does not complete the request leaves its buffer sound (R158). -/
theorem requestSound_push {q : Port} {o : Octet} (goesOn : (q.request.push o).complete = none) (receiver : q.receiver = .request)
    (h : q.requestSound) : ({ q with request := q.request.push o, driven := some 0xFF } : Port).requestSound := by
  obtain ⟨kept, empty, fewer⟩ := h
  refine ⟨push_keeps_data_counted _ _ kept, ?_, ?_⟩
  · show (q.request.push o).length = none → (q.request.push o).data = [] ∧ (q.request.push o).counted = 0
    unfold RequestBuffer.push
    cases command : q.request.command <;> cases target : q.request.target <;> cases length : q.request.length <;>
      simp [length] at empty ⊢ <;> exact empty
  · intro _ l
    show (q.request.push o).length = some l → (q.request.push o).counted < l.toNat
    unfold RequestBuffer.push at goesOn ⊢
    unfold RequestBuffer.complete at goesOn
    specialize fewer receiver
    cases command : q.request.command <;> cases target : q.request.target <;> cases length : q.request.length <;>
      simp [command, target, length] at goesOn fewer ⊢
    · rintro rfl; exact fewer
    · rintro rfl; exact fewer
    · rintro rfl; exact fewer
    · rintro rfl; exact goesOn
    · rintro rfl; exact goesOn

/-! ## Commands taken -/

/-- A request keeps the first 80 of its data octets (R159). -/
def Request.kept (r : Request) : Prop := r.data.length = min 80 r.length

theorem request_kept (c t : Octet) (d : List Octet) : (request c t d).kept := by
  simp [Request.kept, request, Config.requestDataKept]

theorem Keeps.take {act : Action} {p : PortId} {r : Request} (kept : b → r.kept)
    (sound : ∀ t, Keeps a b t (act p r t).2) : Keeps a b s (take act p r s) := by
  refine .trans (.boundaryFirst s) (.trans (sound _) ?_)
  refine .updPort p (fun q => q.taken r (act p r s.boundaryFirst).1) id fun hb _ => ?_
  exact ⟨kept hb, fun h => (nomatch (h : some (octet r.length) = none)), fun h => (nomatch (h : Receiver.response = .request))⟩

/-- What an action leaves of a state keeps the invariants, for a request that keeps its data. -/
def Action.KeptSound (a b : Prop) (act : Action) : Prop := ∀ p r s, (b → r.kept) → Keeps a b s (act p r s).2

theorem Action.Sound.kept {act : Action} (h : act.Sound a b) : act.KeptSound a b := fun p r s _ => h p r s

theorem Keeps.takeRow {act : Action} {p : PortId} {c t : Octet} {d : List Octet} (sound : act.KeptSound a b) :
    Keeps a b s (takeRow act p c t d s) :=
  .take (fun _ => request_kept c t d) fun u => sound p _ u fun _ => request_kept c t d

/-! ## The reading commands -/

theorem actUnknown_sound : actUnknown.Sound a b := fun _ _ s => .refl s

theorem actNop_sound : actNop.Sound a b := fun _ _ s => .withLength fun _ => .refl s

theorem actReadLine_sound : actReadLine.Sound a b := fun p _ s => by
  refine .withLine fun n => ?_
  show Keeps a b s (if p = s.eventPort n then s.updLs n fun l => { l with faultLatch := false } else s)
  split
  · exact .updLs _ _ _
  · exact .refl s

theorem actPeekQueue_sound : actPeekQueue.Sound a b := fun _ _ s => .withLine fun _ => .refl s

theorem actReadEvents_sound : actReadEvents.Sound a b := fun p _ s => by
  refine .withLength fun _ => ?_
  dsimp only
  split
  · refine .updPort p (fun q => { q with queue := q.queue.drop _, lost := 0 }) (fun h => ?_) fun _ h => h
    obtain ⟨queue, _⟩ := h
    simp only [List.length_drop]
    omega
  · exact .refl s

theorem actReadProfile_sound : actReadProfile.Sound a b := fun _ _ s => by
  refine .withLength fun _ => ?_
  split <;> exact .refl s

theorem actReadPlan_sound : actReadPlan.Sound a b := fun _ _ s => by
  refine .withLength fun _ => ?_
  split <;> exact .refl s

theorem actReadPool_sound : actReadPool.Sound a b := fun _ _ s => .withLength fun _ => .refl s

/-- Every action of the command table keeps the invariants (R173). -/
theorem actionOf_keeps (c : Octet) : (actionOf c).KeptSound a b := by
  unfold actionOf
  split
  · exact actNop_sound.kept
  · exact actReadLine_sound.kept
  · exact actPeekQueue_sound.kept
  · exact actReadEvents_sound.kept
  · exact actReadProfile_sound.kept
  · exact actReadPlan_sound.kept
  · exact actReadPool_sound.kept
  · exact actWriteProfile_sound.kept
  · exact actWritePlan_sound.kept
  · exact actClaim_sound.kept
  · exact actRelinquish_sound.kept
  · exact actTakeover_sound.kept
  · exact actAssign_sound.kept
  · exact actSetService_sound.kept
  · exact actAssignProfile_sound.kept
  · exact actProceed_sound.kept
  · exact actCutThrough_sound.kept
  · exact actPlanRelease_sound.kept
  · exact actPlanDiscard_sound.kept
  · exact actFlashAck_sound.kept
  · exact actPurge_sound.kept
  · exact actLineReset_sound.kept
  · exact actTestEnter_sound.kept
  · exact actTestExit_sound.kept
  · exact actLoadPattern_keeps
  · exact actStartPattern_sound.kept
  · exact actAbortPattern_sound.kept
  · exact actWatch_sound.kept
  · exact actReadWatch_sound.kept
  · exact actReadCheck_sound.kept
  · exact actReadStats_sound.kept
  · exact actPartReset_sound.kept
  · exact actUnknown_sound.kept

/-- The request that an octet completes keeps its data, when the buffer is sound (R159). -/
theorem kept_of_complete {q : Port} {o : Octet} {r : Request} (complete : (q.request.push o).complete = some r)
    (receiver : q.receiver = .request) (h : q.requestSound) : r.kept := by
  obtain ⟨c, t, l, command, target, length, counted, rfl⟩ := (complete_eq_some _ _).mp complete
  obtain ⟨kept, empty, fewer⟩ := h
  have pushed := push_keeps_data_counted _ o kept
  have exactly : (q.request.push o).counted = l.toNat := by
    have before := fewer receiver
    unfold RequestBuffer.push at command target length counted ⊢
    cases hc : q.request.command <;> cases ht : q.request.target <;> cases hl : q.request.length <;>
      simp [hc, ht, hl] at command target length counted before empty ⊢
    · subst length
      omega
    · subst length
      omega
    · rw [empty.2]
      omega
    · subst length
      omega
  rw [Request.kept, pushed, exactly]

theorem Keeps.octetTime (p : PortId) (o : Octet) : Keeps a (RequestBuffersSound s) s (s.octetTime p o) := by
  unfold State.octetTime
  split
  · exact .refl s
  · next receiver =>
    dsimp only
    split
    · next r complete =>
      have kept (hs : RequestBuffersSound s) : r.kept := kept_of_complete complete receiver (hs p)
      exact .take kept fun t => actionOf_keeps r.command p r t kept
    · next goesOn => exact .updPort p _ id fun _ h => requestSound_push goesOn receiver h
  · next receiver => exact .drive p receiver
  · exact .updPort p _ id fun _ h => h

end

end Sys2Proof.Machine

namespace Sys2Proof.Machine

/-! ## The steps -/

/-- A command leaves a state in which the invariants are kept; those that a request concerns, when the request buffers were
sound before it. -/
def ExecKeeps (i : Instr) (s : State) : Prop :=
  ∃ t, exec i s = .next t ∧ Machine.Keeps True (RequestBuffersSound s) s t

theorem keeps_goodFrame (f : Vector Octet 65) (s : State) : ExecKeeps (.goodFrame f) s := by
  refine ⟨_, rfl, ?_⟩
  split
  · split
    · exact .takeGoodFrame f
    · exact .takeMissedFrame
  · exact .refl s

theorem keeps_missedFrame (s : State) : ExecKeeps .missedFrame s := by
  refine ⟨_, rfl, ?_⟩
  split
  · exact .takeMissedFrame
  · exact .refl s

theorem keeps_tickBoundary (down up : Vector Sample 32) (s : State) : ExecKeeps (.tickBoundary down up) s := by
  refine ⟨_, rfl, ?_⟩
  split
  · exact .frameSync down up
  · exact .refl s

/-- Every command keeps the invariants. -/
theorem exec_keeps (i : Instr) (s : State) : ExecKeeps i s := by
  cases i with
  | powerOnReset => exact ⟨_, rfl, .powerOn⟩
  | frameBoundary down up => exact ⟨_, rfl, .frameSync down up⟩
  | tickBoundary down up => exact keeps_tickBoundary down up s
  | goodFrame f => exact keeps_goodFrame f s
  | missedFrame => exact keeps_missedFrame s
  | scanLoss => exact ⟨_, rfl, .scanLossReached⟩
  | debouncedStateChange => exact ⟨_, rfl, .debouncedChange⟩
  | seizure n => exact ⟨_, rfl, .trans (.boundaryFirst s) (.seizure (n := n))⟩
  | makeConfirmed n => exact ⟨_, rfl, .trans (.boundaryFirst s) (.makeConfirmed (n := n))⟩
  | digitComplete n => exact ⟨_, rfl, .trans (.boundaryFirst s) (.digitComplete (n := n))⟩
  | release n => exact ⟨_, rfl, .trans (.boundaryFirst s) (.release (n := n))⟩
  | dialTimeout n => exact ⟨_, rfl, .trans (.boundaryFirst s) (.dialTimeout (n := n))⟩
  | autoProceedExpiry n => exact ⟨_, rfl, .trans (.boundaryFirst s) (.autoProceedExpiry (n := n))⟩
  | generatorGrant => exact ⟨_, rfl, .boundaryFirst s⟩
  | onPhaseEnd n => exact ⟨_, rfl, .trans (.boundaryFirst s) (.onPhaseEnd (n := n))⟩
  | offPhaseEnd n => exact ⟨_, rfl, .trans (.boundaryFirst s) (.offPhaseEnd (n := n))⟩
  | patternSegmentAdvance => exact ⟨_, rfl, .advanceSegment⟩
  | patternDone => exact ⟨_, rfl, .endPattern⟩
  | frameBegin p => exact ⟨_, rfl, .lowerSelect p⟩
  | frameEnd p => exact ⟨_, rfl, .raiseSelect p⟩
  | unknownCommand => exact ⟨_, rfl, .takeRow actUnknown_sound.kept⟩
  | nop => exact ⟨_, rfl, .takeRow actNop_sound.kept⟩
  | readLine => exact ⟨_, rfl, .takeRow actReadLine_sound.kept⟩
  | peekQueue => exact ⟨_, rfl, .takeRow actPeekQueue_sound.kept⟩
  | readEvents => exact ⟨_, rfl, .takeRow actReadEvents_sound.kept⟩
  | readProfile => exact ⟨_, rfl, .takeRow actReadProfile_sound.kept⟩
  | readPlan => exact ⟨_, rfl, .takeRow actReadPlan_sound.kept⟩
  | readPool => exact ⟨_, rfl, .takeRow actReadPool_sound.kept⟩
  | writeProfile => exact ⟨_, rfl, .takeRow actWriteProfile_sound.kept⟩
  | writePlan => exact ⟨_, rfl, .takeRow actWritePlan_sound.kept⟩
  | claim => exact ⟨_, rfl, .takeRow actClaim_sound.kept⟩
  | relinquish => exact ⟨_, rfl, .takeRow actRelinquish_sound.kept⟩
  | takeover => exact ⟨_, rfl, .takeRow actTakeover_sound.kept⟩
  | takeoverAll => exact ⟨_, rfl, .takeRow actTakeover_sound.kept⟩
  | assign => exact ⟨_, rfl, .takeRow actAssign_sound.kept⟩
  | setServiceIn => exact ⟨_, rfl, .takeRow actSetService_sound.kept⟩
  | setServiceOut => exact ⟨_, rfl, .takeRow actSetService_sound.kept⟩
  | assignProfile => exact ⟨_, rfl, .takeRow actAssignProfile_sound.kept⟩
  | proceed => exact ⟨_, rfl, .takeRow actProceed_sound.kept⟩
  | cutThrough => exact ⟨_, rfl, .takeRow actCutThrough_sound.kept⟩
  | planRelease => exact ⟨_, rfl, .takeRow actPlanRelease_sound.kept⟩
  | planDiscard => exact ⟨_, rfl, .takeRow actPlanDiscard_sound.kept⟩
  | flashAck => exact ⟨_, rfl, .takeRow actFlashAck_sound.kept⟩
  | purge => exact ⟨_, rfl, .takeRow actPurge_sound.kept⟩
  | lineReset => exact ⟨_, rfl, .takeRow actLineReset_sound.kept⟩
  | testEnter => exact ⟨_, rfl, .takeRow actTestEnter_sound.kept⟩
  | testExit => exact ⟨_, rfl, .takeRow actTestExit_sound.kept⟩
  | loadPattern => exact ⟨_, rfl, .takeRow actLoadPattern_keeps⟩
  | startPattern => exact ⟨_, rfl, .takeRow actStartPattern_sound.kept⟩
  | abortPattern => exact ⟨_, rfl, .takeRow actAbortPattern_sound.kept⟩
  | watch => exact ⟨_, rfl, .takeRow actWatch_sound.kept⟩
  | readWatch => exact ⟨_, rfl, .takeRow actReadWatch_sound.kept⟩
  | readCheck => exact ⟨_, rfl, .takeRow actReadCheck_sound.kept⟩
  | readStats => exact ⟨_, rfl, .takeRow actReadStats_sound.kept⟩
  | partReset => exact ⟨_, rfl, .takeRow actPartReset_sound.kept⟩
  | octetTime p o => exact ⟨_, rfl, .octetTime p o⟩

/-- Every step keeps the invariants. -/
theorem keeps_step {s t : State} (h : step s = .next t) : Keeps True (RequestBuffersSound s) s t := by
  unfold step at h
  split at h
  · obtain rfl := Host.Outcome.next.inj h
    exact .refl s
  · next c rest queue =>
    obtain ⟨u, executed, kept⟩ := exec_keeps c { s with pending := rest }
    obtain rfl := Host.Outcome.next.inj (executed.symm.trans h)
    have taken : Keeps True (RequestBuffersSound s) s { s with pending := rest } :=
      .of_lines_eq rfl rfl rfl rfl rfl rfl rfl fun p => by cases p <;> exact .refl _
    have sound (hs : RequestBuffersSound s) : RequestBuffersSound { s with pending := rest } := taken.requests hs hs
    have after : Keeps True (RequestBuffersSound s) { s with pending := rest } u :=
      { kept with requests := fun hs => kept.requests (sound hs), tests := fun hs => kept.tests (sound hs) }
    exact taken.trans after

/-- Settles O55: the invariant that every step keeps, with the others (`keeps_step`). -/
theorem stepsKeepProfilesValid : Obligations.StepsKeepProfilesValid := by
  unfold Obligations.StepsKeepProfilesValid
  exact fun _ _ hs stepped => (keeps_step stepped).profiles hs

/-- Settles O56: the invariant that every step keeps, with the others (`keeps_step`). -/
theorem stepsKeepEventQueuesBounded : Obligations.StepsKeepEventQueuesBounded := by
  unfold Obligations.StepsKeepEventQueuesBounded
  exact fun _ _ hs stepped => (keeps_step stepped).events hs

/-- Settles O57: the invariant that every step keeps, with the others (`keeps_step`). -/
theorem stepsConserveTheDigitStore : Obligations.StepsConserveTheDigitStore := by
  unfold Obligations.StepsConserveTheDigitStore
  exact fun _ _ hs stepped => (keeps_step stepped).store hs

/-- Settles O58: the invariant that every step keeps, with the others (`keeps_step`). -/
theorem stepsKeepCallsConsistent : Obligations.StepsKeepCallsConsistent := by
  unfold Obligations.StepsKeepCallsConsistent
  exact fun _ _ hs stepped => (keeps_step stepped).calls trivial hs

/-- Settles O59: the invariant that every step keeps, with the others (`keeps_step`). -/
theorem stepsKeepThePoolConsistent : Obligations.StepsKeepThePoolConsistent := by
  unfold Obligations.StepsKeepThePoolConsistent
  exact fun _ _ hs stepped => (keeps_step stepped).pool hs

/-- Settles O60: the request buffers are kept sound, and under their soundness the test lines (`keeps_step`). -/
theorem stepsKeepTestLinesSound : Obligations.StepsKeepTestLinesSound := by
  unfold Obligations.StepsKeepTestLinesSound
  exact fun _ _ sound stepped => ⟨(keeps_step stepped).requests sound sound, (keeps_step stepped).tests sound⟩

/-! ## The state after power-on reset -/

theorem fresh_reset : Fresh State.reset where
  lines := by simp [State.reset]
  free := by simp only [State.reset]
  holders g := by simp [State.reset, State.gen]
  list := rfl
  pattern := rfl
  play := rfl
  queues p := by cases p <;> exact ⟨rfl, rfl⟩

/-- Settles O54: the state after power-on reset is fresh, and its entries are the valid default entry. -/
theorem resetStateMeetsTheInvariants : Obligations.ResetStateMeetsTheInvariants := by
  unfold Obligations.ResetStateMeetsTheInvariants
  exact ⟨fresh_reset.profilesValid entries_reset, fresh_reset.eventQueuesBounded, fresh_reset.storeConserved,
    fresh_reset.callsConsistent, fresh_reset.poolConsistent, fun p => by cases p <;> exact requestSound_idle rfl,
    fresh_reset.testLinesSound⟩

end Sys2Proof.Machine

namespace Sys2Proof.Machine

/-! ## The machine and its resets -/

/-- Settles O1: the two cases of `step`. -/
theorem stepExecutesTheFrontCommand : Obligations.StepExecutesTheFrontCommand := by
  unfold Obligations.StepExecutesTheFrontCommand
  exact ⟨fun _ _ _ => rfl, fun s empty => by rw [step, empty]⟩

/-- POWER_ON_RESET is the power-on reset. -/
theorem exec_powerOnReset (s : State) : exec .powerOnReset s = .next s.powerOn := rfl

/-- Settles O2: the state of `fresh_powerOn`, with the entries, the plan and the highway as `State.reset` sets them. -/
theorem powerOnResetSetsEveryBlock : Obligations.PowerOnResetSetsEveryBlock := by
  unfold Obligations.PowerOnResetSetsEveryBlock
  intro s
  have fresh := fresh_powerOn s
  have entry (i : Fin 8) : s.powerOn.profiles[i] = Profile.default := by simp [State.powerOn, State.reset]
  refine ⟨s.powerOn, exec_powerOnReset s, fun n => ?lines, rfl, rfl, rfl, entry, ?free, fun i k => ?plan, fresh.holders,
    fresh.list, rfl, rfl, rfl, fun n => ?highways, rfl, rfl, rfl, rfl, rfl, fun p => ?ports, rfl⟩
  case lines => rw [fresh.line n, show s.powerOn.profiles[0] = Profile.default from entry 0]; rfl
  case free => rw [fresh.free]
  case plan => simp [State.powerOn, State.reset]
  case highways => simp [State.powerOn, State.reset]
  case ports => cases p <;> rfl

/-- PART_RESET is taken as its row of the command table. -/
theorem exec_partReset (p : PortId) (t : Octet) (d : List Octet) (s : State) :
    exec (.partReset p t d) s = .next (takeRow actPartReset p 0x4F t d s) := rfl

/-- PART_RESET from port M (R186). -/
theorem actPartReset_portM (c t : Octet) (s : State) :
    actPartReset .m (request c t []) s = accept (be32 s.timestamp) s.partReset := rfl

/-- Settles O3: the state of `fresh_partReset`. -/
theorem partResetKeepsTheTables : Obligations.PartResetKeepsTheTables := by
  unfold Obligations.PartResetKeepsTheTables
  rintro t s u rfl
  have fresh := fresh_partReset s.boundaryFirst
  refine ⟨s.boundaryFirst.partReset, ?row, fresh.line, fun _ => rfl, by rw [fresh.free], fresh.holders, ?state⟩
  case state => simp only [State.partReset, Port.discardEvents]
  rw [exec_partReset, takeRow_accepted _ _ _ _ _ _ _ _ (actPartReset_portM 0x4F t _)]

/-! ## Select -/

/-- A port changed into itself. -/
theorem updPort_of_eq {s : State} {p : PortId} {f : Port → Port} (same : f (s.port p) = s.port p) : s.updPort p f = s := by
  cases p with
  | a => exact congrArg (fun q => { s with portA := q }) same
  | b => exact congrArg (fun q => { s with portB := q }) same
  | m => exact congrArg (fun q => { s with portM := q }) same

/-- Two changes of a port that agree on it are one. -/
theorem updPort_congr {s : State} {p : PortId} {f g : Port → Port} (same : f (s.port p) = g (s.port p)) :
    s.updPort p f = s.updPort p g := by
  cases p with
  | a => exact congrArg (fun q => { s with portA := q }) same
  | b => exact congrArg (fun q => { s with portB := q }) same
  | m => exact congrArg (fun q => { s with portM := q }) same

/-- FRAME_BEGIN lowers select. -/
theorem exec_frameBegin (p : PortId) (s : State) : exec (.frameBegin p) s = .next (s.updPort p Port.lowerSelect) := rfl

/-- FRAME_END raises select. -/
theorem exec_frameEnd (p : PortId) (s : State) : exec (.frameEnd p) s = .next (s.updPort p Port.raiseSelect) := rfl

/-- Settles O4: an edge of select, and none. -/
theorem selectFramesARequest : Obligations.SelectFramesARequest := by
  unfold Obligations.SelectFramesARequest
  intro p s
  refine ⟨fun high => ?_, fun low => ?_, fun low => ?_, fun high => ?_⟩
  · rw [exec_frameBegin, updPort_congr]
    rw [Port.lowerSelect, high]
    rfl
  · rw [exec_frameBegin, updPort_of_eq]
    rw [Port.lowerSelect, if_pos low]
  · rw [exec_frameEnd, updPort_congr]
    rw [Port.raiseSelect, if_pos low]
  · rw [exec_frameEnd, updPort_of_eq]
    rw [Port.raiseSelect, high]
    rfl

/-! ## Octet times -/

/-- OCTET_TIME is one octet time on its port. -/
theorem exec_octetTime (p : PortId) (o : Octet) (s : State) : exec (.octetTime p o) s = .next (s.octetTime p o) := rfl

/-- One octet time of RESPONSE with an octet of the response still to drive (R158). -/
theorem drive_eq {q : Port} {w : ResponseBuffer} (response : q.response = some w) :
    q.drive
      = { q with
          driven := ([octet w.status.code, octet w.data.length] ++ w.data)[w.sent]?
          response := some { w with sent := w.sent + 1 }
          receiver := if w.sent + 1 < w.data.length + 2 then .response else .trailer } := by
  rw [Port.drive, response]
  rfl

/-- Settles O5: the phases of the receiver, and in REQUEST whether the octet completes the request. -/
theorem octetTimesFollowTheFrame : Obligations.OctetTimesFollowTheFrame := by
  unfold Obligations.OctetTimesFollowTheFrame
  intro p o s
  simp only [exec_octetTime]
  refine ⟨fun idle => ?_, fun inRequest goesOn => ?_, fun r inRequest complete => ?_, fun w inResponse response _ => ?_,
    fun trailer => ?_⟩
  · rw [State.octetTime, idle]
  · simp only [State.octetTime, inRequest, goesOn]
    rw [updPort_congr]
    rfl
  · simp only [State.octetTime, inRequest, complete]
  · simp only [State.octetTime, inResponse]
    exact congrArg Host.Outcome.next (updPort_congr (drive_eq response))
  · simp only [State.octetTime, trailer]

/-! ## The octets of a request -/

/-- The buffer that holds the three leading octets of a request and the data octets `e` after them (R159). -/
def bufferOf (c t l : Octet) (e : List Octet) : RequestBuffer where
  command := some c
  target := some t
  length := some l
  data := e.take 80
  counted := e.length

theorem push_bufferOf (c t l o : Octet) (e : List Octet) : (bufferOf c t l e).push o = bufferOf c t l (e ++ [o]) := by
  have data : (if (e.take 80).length < 80 then e.take 80 ++ [o] else e.take 80) = (e ++ [o]).take 80 := by
    by_cases room : e.length < 80
    · rw [if_pos (by simpa using room), List.take_of_length_le (by omega), List.take_of_length_le (by simp; omega)]
    · rw [if_neg (by simpa using room), List.take_append_of_le_length (by omega)]
  show RequestBuffer.mk _ _ _ (if (e.take 80).length < 80 then e.take 80 ++ [o] else e.take 80) _ = _
  rw [data]
  simp [bufferOf]

theorem foldl_push_bufferOf (c t l : Octet) (d e : List Octet) :
    d.foldl RequestBuffer.push (bufferOf c t l e) = bufferOf c t l (e ++ d) := by
  induction d generalizing e with
  | nil => simp
  | cons o rest ih => rw [List.foldl_cons, push_bufferOf, ih, List.append_assoc, List.singleton_append]

/-- The octets of a request, received into an empty buffer. -/
theorem foldl_push_request (c t l : Octet) (d : List Octet) :
    (c :: t :: l :: d).foldl RequestBuffer.push {} = bufferOf c t l d := by
  have leading : (((({} : RequestBuffer).push c).push t).push l) = bufferOf c t l [] := rfl
  rw [List.foldl_cons, List.foldl_cons, List.foldl_cons, leading, foldl_push_bufferOf, List.nil_append]

theorem complete_bufferOf (c t l : Octet) (e : List Octet) :
    (bufferOf c t l e).complete = if l.toNat ≤ e.length then some ⟨c, t, l.toNat, e.take 80⟩ else none := rfl

theorem toNat_octet (n : Nat) (small : n ≤ 255) : (octet n).toNat = n := by
  rw [octet, BitVec.toNat_ofNat]
  omega

/-- Settles O6: the buffer after any number of the octets is `bufferOf`, or it has no length octet. -/
theorem requestOctetsSpellOneRequest : Obligations.RequestOctetsSpellOneRequest := by
  unfold Obligations.RequestOctetsSpellOneRequest
  intro c t d small
  have total := toNat_octet d.length small
  refine ⟨?whole, fun k short => ?part⟩
  case whole =>
    show ((c :: t :: octet d.length :: d).foldl RequestBuffer.push {}).complete = _
    rw [foldl_push_request, complete_bufferOf, total, if_pos (Nat.le_refl _)]
  case part =>
    show (((c :: t :: octet d.length :: d).take k).foldl RequestBuffer.push {}).complete = _
    match k, short with
    | 0, _ => rfl
    | 1, _ => rfl
    | 2, _ => rfl
    | j + 3, short =>
      simp only [List.take_succ_cons]
      rw [foldl_push_request, complete_bufferOf, total, if_neg]
      rw [List.length_take]
      omega

/-! ## The command table -/

/-- The number of a code that is not in the table is that of no code in the table. -/
theorem toNat_ne_of_undefined {c : Octet} {k : Nat} (undefined : c ∉ definedCodes) (same : c.toNat = k) :
    BitVec.ofNat 8 k ∉ definedCodes := by
  have code : BitVec.ofNat 8 k = c := by rw [← same, BitVec.ofNat_toNat, BitVec.setWidth_eq]
  rwa [code]

theorem actionOf_undefined {c : Octet} (undefined : c ∉ definedCodes) : actionOf c = actUnknown := by
  unfold actionOf
  split
  case h_33 => rfl
  all_goals next same => exact absurd (by decide) (toNat_ne_of_undefined undefined same)

theorem rowOfRequest_undefined {c : Octet} (undefined : c ∉ definedCodes) (p : PortId) (t : Octet) (d : List Octet) :
    rowOfRequest p c t d = .unknownCommand p c t d := by
  unfold rowOfRequest
  split
  case h_33 => rfl
  all_goals next same => exact absurd (by decide) (toNat_ne_of_undefined undefined same)

theorem rowOfRequest_takeover {p : PortId} {t : Octet} {d : List Octet} (one : t ≠ 255) :
    rowOfRequest p 0x22 t d = .takeover p t d := if_neg one

theorem rowOfRequest_setServiceIn {p : PortId} {t : Octet} {d : List Octet} (inService : d ≠ [0]) :
    rowOfRequest p 0x24 t d = .setServiceIn p t d := if_neg inService

theorem exec_takeover_request (p : PortId) (t : Octet) (d : List Octet) (s : State) :
    exec (rowOfRequest p 0x22 t d) s = .next (takeRow actTakeover p 0x22 t d s) := by
  by_cases all : t = 255
  · subst all; rfl
  · rw [rowOfRequest_takeover all]; rfl

theorem exec_setService_request (p : PortId) (t : Octet) (d : List Octet) (s : State) :
    exec (rowOfRequest p 0x24 t d) s = .next (takeRow actSetService p 0x24 t d s) := by
  by_cases out : d = [0]
  · subst out; rfl
  · rw [rowOfRequest_setServiceIn out]; rfl

/-- A request has the effect of its code's action, taken on its port (R159, R173). -/
theorem exec_rowOfRequest (p : PortId) (c t : Octet) (d : List Octet) (s : State) :
    exec (rowOfRequest p c t d) s = .next (takeRow (actionOf c) p c t d s) := by
  by_cases defined : c ∈ definedCodes
  · simp only [definedCodes, List.mem_cons, List.not_mem_nil, or_false] at defined
    rcases defined with rfl | rfl | rfl | rfl | rfl | rfl | rfl | rfl | rfl | rfl | rfl | rfl | rfl | rfl | rfl
      | rfl | rfl | rfl | rfl | rfl | rfl | rfl | rfl | rfl | rfl | rfl | rfl | rfl | rfl | rfl | rfl | rfl
    all_goals first
      | rfl
      | exact exec_takeover_request p t d s
      | exact exec_setService_request p t d s
  · rw [rowOfRequest_undefined defined, actionOf_undefined defined]
    rfl

/-- The request of a well-formed row spells that row, whichever it is. -/
theorem rowOfRequest_requestOfRow {i : Instr} (wellFormed : i.wellFormed = true) {p : PortId} {c t : Octet} {d : List Octet}
    (request : requestOfRow i = some (p, c, t, d)) : rowOfRequest p c t d = i := by
  refine (show Laws.RequestRoundTrip.Statement i from ?_) wellFormed p c t d request
  cases i with
  | powerOnReset => exact Laws.RequestRoundTrip.powerOnReset
  | frameBoundary => exact Laws.RequestRoundTrip.frameBoundary _ _
  | tickBoundary => exact Laws.RequestRoundTrip.tickBoundary _ _
  | goodFrame => exact Laws.RequestRoundTrip.goodFrame _
  | missedFrame => exact Laws.RequestRoundTrip.missedFrame
  | scanLoss => exact Laws.RequestRoundTrip.scanLoss
  | debouncedStateChange => exact Laws.RequestRoundTrip.debouncedStateChange _
  | seizure => exact Laws.RequestRoundTrip.seizure _
  | makeConfirmed => exact Laws.RequestRoundTrip.makeConfirmed _
  | digitComplete => exact Laws.RequestRoundTrip.digitComplete _
  | release => exact Laws.RequestRoundTrip.release _
  | dialTimeout => exact Laws.RequestRoundTrip.dialTimeout _
  | autoProceedExpiry => exact Laws.RequestRoundTrip.autoProceedExpiry _
  | generatorGrant => exact Laws.RequestRoundTrip.generatorGrant
  | onPhaseEnd => exact Laws.RequestRoundTrip.onPhaseEnd _
  | offPhaseEnd => exact Laws.RequestRoundTrip.offPhaseEnd _
  | patternSegmentAdvance => exact Laws.RequestRoundTrip.patternSegmentAdvance
  | patternDone => exact Laws.RequestRoundTrip.patternDone
  | frameBegin => exact Laws.RequestRoundTrip.frameBegin _
  | frameEnd => exact Laws.RequestRoundTrip.frameEnd _
  | unknownCommand => exact Laws.RequestRoundTrip.unknownCommand _ _ _ _
  | nop => exact Laws.RequestRoundTrip.nop _ _ _
  | readLine => exact Laws.RequestRoundTrip.readLine _ _ _
  | peekQueue => exact Laws.RequestRoundTrip.peekQueue _ _ _
  | readEvents => exact Laws.RequestRoundTrip.readEvents _ _ _
  | readProfile => exact Laws.RequestRoundTrip.readProfile _ _ _
  | readPlan => exact Laws.RequestRoundTrip.readPlan _ _ _
  | readPool => exact Laws.RequestRoundTrip.readPool _ _ _
  | writeProfile => exact Laws.RequestRoundTrip.writeProfile _ _ _
  | writePlan => exact Laws.RequestRoundTrip.writePlan _ _ _
  | claim => exact Laws.RequestRoundTrip.claim _ _ _
  | relinquish => exact Laws.RequestRoundTrip.relinquish _ _ _
  | takeover => exact Laws.RequestRoundTrip.takeover _ _ _
  | takeoverAll => exact Laws.RequestRoundTrip.takeoverAll _ _
  | assign => exact Laws.RequestRoundTrip.assign _ _ _
  | setServiceIn => exact Laws.RequestRoundTrip.setServiceIn _ _ _
  | setServiceOut => exact Laws.RequestRoundTrip.setServiceOut _ _ _
  | assignProfile => exact Laws.RequestRoundTrip.assignProfile _ _ _
  | proceed => exact Laws.RequestRoundTrip.proceed _ _ _
  | cutThrough => exact Laws.RequestRoundTrip.cutThrough _ _ _
  | planRelease => exact Laws.RequestRoundTrip.planRelease _ _ _
  | planDiscard => exact Laws.RequestRoundTrip.planDiscard _ _ _
  | flashAck => exact Laws.RequestRoundTrip.flashAck _ _ _
  | purge => exact Laws.RequestRoundTrip.purge _ _ _
  | lineReset => exact Laws.RequestRoundTrip.lineReset _ _ _
  | testEnter => exact Laws.RequestRoundTrip.testEnter _ _ _
  | testExit => exact Laws.RequestRoundTrip.testExit _ _ _
  | loadPattern => exact Laws.RequestRoundTrip.loadPattern _ _ _
  | startPattern => exact Laws.RequestRoundTrip.startPattern _ _ _
  | abortPattern => exact Laws.RequestRoundTrip.abortPattern _ _ _
  | watch => exact Laws.RequestRoundTrip.watch _ _ _
  | readWatch => exact Laws.RequestRoundTrip.readWatch _ _ _
  | readCheck => exact Laws.RequestRoundTrip.readCheck _ _ _
  | readStats => exact Laws.RequestRoundTrip.readStats _ _ _
  | partReset => exact Laws.RequestRoundTrip.partReset _ _ _
  | octetTime => exact Laws.RequestRoundTrip.octetTime _ _

/-- Settles O7: the row is the one that its request spells. -/
theorem rowsActAsTheirRequests : Obligations.RowsActAsTheirRequests := by
  unfold Obligations.RowsActAsTheirRequests
  intro i p c t d s wellFormed request
  rw [← rowOfRequest_requestOfRow wellFormed request, exec_rowOfRequest]
  rfl

/-- Settles O8: a code of the table, with the requests that two rows share; or another, which UNKNOWN_COMMAND keeps. -/
theorem requestsAndRowsCorrespond : Obligations.RequestsAndRowsCorrespond := by
  unfold Obligations.RequestsAndRowsCorrespond
  intro p c t d small
  by_cases defined : c ∈ definedCodes
  · by_cases takeover : c = 0x22
    · subst takeover
      by_cases all : t = 255
      · simp [rowOfRequest, Instr.wellFormed, requestOfRow, all, small]
      · rw [rowOfRequest_takeover all]
        simpa [Instr.wellFormed, requestOfRow, small] using all
    · by_cases service : c = 0x24
      · subst service
        by_cases out : d = [0]
        · simp [rowOfRequest, Instr.wellFormed, requestOfRow, out]
        · rw [rowOfRequest_setServiceIn out]
          simpa [Instr.wellFormed, requestOfRow, small] using out
      · simp only [definedCodes, List.mem_cons, List.not_mem_nil, or_false, takeover, service, false_or] at defined
        rcases defined with rfl | rfl | rfl | rfl | rfl | rfl | rfl | rfl | rfl | rfl | rfl | rfl | rfl | rfl | rfl
          | rfl | rfl | rfl | rfl | rfl | rfl | rfl | rfl | rfl | rfl | rfl | rfl | rfl | rfl | rfl
        all_goals exact ⟨decide_eq_true small, rfl⟩
  · rw [rowOfRequest_undefined defined]
    simp [Instr.wellFormed, requestOfRow, small, defined]

end Sys2Proof.Machine

namespace Sys2Proof.Machine

/-! ## Refusals before the work of a command -/

/-- A request that its code's action refuses leaves its port with the status, and nothing else changed (R161). -/
theorem exec_request_refused {p : PortId} {c t : Octet} {d : List Octet} {s : State} {status : Status}
    (refused : ∀ u : State, actionOf c p (request c t d) u = refuse status u) :
    exec (rowOfRequest p c t d) s = .next (answered p (request c t d) status [] s.boundaryFirst) := by
  rw [exec_rowOfRequest, takeRow_refused _ _ _ _ _ _ _ (refused _)]

/-- Every command of the table but LOAD_PATTERN first checks the length that the table gives it (R161, R173). -/
theorem checksLength_of_required {c : Octet} {k : Nat} (required : requiredLength c = some k) :
    ChecksLength (actionOf c) k := by
  unfold requiredLength at required
  split at required
  · next noData =>
    obtain rfl := Option.some.inj required
    simp only [List.mem_cons, List.not_mem_nil, or_false] at noData
    rcases noData with rfl | rfl | rfl | rfl | rfl | rfl | rfl | rfl | rfl | rfl | rfl | rfl | rfl | rfl | rfl | rfl
      | rfl | rfl | rfl | rfl | rfl | rfl | rfl | rfl | rfl
    all_goals exact fun _ _ _ => ⟨_, rfl⟩
  split at required
  · next oneOctet =>
    obtain rfl := Option.some.inj required
    simp only [List.mem_cons, List.not_mem_nil, or_false] at oneOctet
    rcases oneOctet with rfl | rfl | rfl | rfl
    all_goals exact fun _ _ _ => ⟨_, rfl⟩
  split at required
  · next writeProfile =>
    obtain rfl := Option.some.inj required
    subst writeProfile
    exact fun _ _ _ => ⟨_, rfl⟩
  split at required
  · next writePlan =>
    obtain rfl := Option.some.inj required
    subst writePlan
    exact fun _ _ _ => ⟨_, rfl⟩
  · cases required

/-- An action whose checks begin with those of `withLine` refuses RANGE also for the target 255. -/
def BeginsWithLine (act : Action) (k : Nat) : Prop := ∀ p r s, ∃ rest, act p r s = withLine r k s rest

theorem BeginsWithLine.refuses {act : Action} {k : Nat} (begins : BeginsWithLine act k) (p : PortId) (r : Request) (s : State)
    (length : r.length = k) (noLine : lineOfOctet r.target = none) : act p r s = refuse .range s := by
  obtain ⟨rest, first⟩ := begins p r s
  exact first.trans (withLine_range r k s rest length noLine)

theorem actTakeover_noLine (p : PortId) (r : Request) (s : State) (length : r.length = 0)
    (noLine : lineOfOctet r.target = none) (one : r.target ≠ 255) : actTakeover p r s = refuse .range s := by
  rw [actTakeover, withLength_ok _ _ _ _ length, if_neg one, noLine]

theorem actWatch_noLine (p : PortId) (r : Request) (s : State) (length : r.length = 0)
    (noLine : lineOfOctet r.target = none) (one : r.target ≠ 255) : actWatch p r s = refuse .range s := by
  rw [actWatch, withLength_ok _ _ _ _ length, watchOfOctet, if_neg one, noLine]

/-- Every command whose target is a line refuses a target that names none; TAKEOVER and WATCH take 255 (R173). -/
theorem noLine_refused {p : PortId} {c : Octet} {r : Request} {s : State} (toLine : c ∈ lineCodes)
    (required : requiredLength c = some r.length) (noLine : lineOfOctet r.target = none)
    (all : r.target = 255 → c ≠ 0x22 ∧ c ≠ 0x45) : actionOf c p r s = refuse .range s := by
  by_cases takeover : c = 0x22
  · subst takeover
    exact actTakeover_noLine p r s (Option.some.inj required).symm noLine fun h => (all h).1 rfl
  by_cases watch : c = 0x45
  · subst watch
    exact actWatch_noLine p r s (Option.some.inj required).symm noLine fun h => (all h).2 rfl
  simp only [lineCodes, List.mem_cons, List.not_mem_nil, or_false, takeover, watch, false_or] at toLine
  rcases toLine with rfl | rfl | rfl | rfl | rfl | rfl | rfl | rfl | rfl | rfl | rfl | rfl | rfl | rfl | rfl | rfl | rfl | rfl
  all_goals exact BeginsWithLine.refuses (act := actionOf _) (fun _ _ _ => ⟨_, rfl⟩) p r s (Option.some.inj required).symm noLine

/-- LOAD_PATTERN is taken as its row of the command table. -/
theorem exec_loadPattern (p : PortId) (t : Octet) (d : List Octet) (s : State) :
    exec (.loadPattern p t d) s = .next (takeRow actLoadPattern p 0x42 t d s) := rfl

/-- Settles O9: an undefined code, a bad length (`checksLength_of_required`), and a target without a line
(`noLine_refused`). -/
theorem badRequestsAreRefused : Obligations.BadRequestsAreRefused := by
  unfold Obligations.BadRequestsAreRefused
  refine ⟨?undefined, ?length, ?pattern, ?line⟩
  case undefined =>
    rintro p c t d s u rfl undefined
    rw [← rowOfRequest_undefined undefined, exec_request_refused]
    exact fun u => by rw [actionOf_undefined undefined]; rfl
  case length =>
    rintro p c t d k s u rfl required bad
    rw [exec_rowOfRequest, takeRow_badLength (checksLength_of_required required) _ _ _ _ _ bad]
  case pattern =>
    rintro p t d s u rfl bad
    rw [exec_loadPattern, takeRow_refused _ _ _ _ _ _ .length]
    exact if_neg bad
  case line =>
    rintro p c t d s u rfl toLine required outside all
    exact exec_request_refused fun u =>
      noLine_refused toLine (r := request c t d) required (lineOfOctet_outside t outside) all

/-! ## The port check of the maintenance commands -/

theorem onPortM_other {p : PortId} (other : p ≠ .m) (s : State) (rest : Reply × State) :
    onPortM p s rest = refuse .wrongPort s := if_neg other

theorem maintenance_other {p : PortId} (other : p ≠ .m) (c t : Octet) (s : State) (rest : Reply × State) :
    maintenance p (request c t []) s rest = refuse .wrongPort s := by
  rw [maintenance, withLength_noData, onPortM_other other]

theorem maintenanceLine_other {p : PortId} (other : p ≠ .m) {c t : Octet} {n : LineId} (line : lineOfOctet t = some n)
    (s : State) (rest : LineId → Reply × State) :
    maintenanceLine p (request c t []) s rest = refuse .wrongPort s := by
  exact (withLine_ok (request c t []) 0 s _ n rfl line).trans (onPortM_other other _ _)

/-- An action that makes the checks of a maintenance command without a line (chapter 11). -/
theorem withLength_other {p : PortId} (other : p ≠ .m) {c t : Octet} {s : State}
    (checks : ∃ rest, actionOf c p (request c t []) s = maintenance p (request c t []) s rest) :
    actionOf c p (request c t []) s = refuse .wrongPort s := by
  obtain ⟨rest, first⟩ := checks
  exact first.trans (maintenance_other other c t s rest)

/-- An action that makes the checks of a maintenance command for a line (chapter 11). -/
theorem withLine_other {p : PortId} (other : p ≠ .m) {c t : Octet} {s : State}
    (line : ∃ n, lineOfOctet t = some n)
    (checks : ∃ rest, actionOf c p (request c t []) s = maintenanceLine p (request c t []) s rest) :
    actionOf c p (request c t []) s = refuse .wrongPort s := by
  obtain ⟨n, named⟩ := line
  obtain ⟨rest, first⟩ := checks
  exact first.trans (maintenanceLine_other other named s rest)

theorem lineOfOctet_inside {t : Octet} (inside : t.toNat < 32) : ∃ n, lineOfOctet t = some n := ⟨_, dif_pos inside⟩

/-- The target of WATCH names a line, or 255 none (R184). -/
theorem watchOfOctet_some {t : Octet} (target : t.toNat < 32 ∨ t = 255) : ∃ selection, watchOfOctet t = some selection := by
  rcases target with inside | none
  · obtain ⟨n, line⟩ := lineOfOctet_inside inside
    have notNone : t ≠ 255 := by rintro rfl; exact absurd inside (by decide)
    exact ⟨some n, by rw [watchOfOctet, if_neg notNone, line]⟩
  · exact ⟨Option.none, if_pos none⟩

theorem actWatch_other {p : PortId} (other : p ≠ .m) {c t : Octet} (target : t.toNat < 32 ∨ t = 255) (s : State) :
    actWatch p (request c t []) s = refuse .wrongPort s := by
  obtain ⟨selection, reads⟩ := watchOfOctet_some target
  rw [actWatch, withLength_noData, show watchOfOctet (request c t []).target = some selection from reads]
  exact onPortM_other other _ _

theorem actLoadPattern_other {p : PortId} (other : p ≠ .m) {c t : Octet} {d : List Octet} {segs : List Segment}
    (size : d.length % 3 = 0 ∧ 3 ≤ d.length ∧ d.length ≤ 48) (read : segmentsOfOctets d = some segs) (s : State) :
    actLoadPattern p (request c t d) s = refuse .wrongPort s := by
  have kept : (request c t d).data = d := List.take_of_length_le (by show _ ≤ 80; omega)
  rw [actLoadPattern, kept, read]
  exact (if_pos size).trans (onPortM_other other _ _)

/-- Settles O10: the port check that each maintenance command makes after its length and range checks. -/
theorem maintenanceNeedsPortM : Obligations.MaintenanceNeedsPortM := by
  unfold Obligations.MaintenanceNeedsPortM
  constructor
  · rintro p c t s u rfl other maintenanceCode ofLine ofWatch
    refine exec_request_refused fun u => ?_
    simp only [List.mem_cons, List.not_mem_nil, or_false] at maintenanceCode
    have line (h : c ∈ [(0x40 : Octet), 0x41, 0x43, 0x48]) : ∃ n, lineOfOctet t = some n := lineOfOctet_inside (ofLine h)
    rcases maintenanceCode with rfl | rfl | rfl | rfl | rfl | rfl | rfl | rfl | rfl
    · exact withLine_other other (line (by decide)) ⟨_, rfl⟩
    · exact withLine_other other (line (by decide)) ⟨_, rfl⟩
    · exact withLine_other other (line (by decide)) ⟨_, rfl⟩
    · exact withLength_other other ⟨_, rfl⟩
    · exact actWatch_other other (ofWatch rfl) u
    · exact withLength_other other ⟨_, rfl⟩
    · exact withLength_other other ⟨_, rfl⟩
    · exact withLine_other other (line (by decide)) ⟨_, rfl⟩
    · exact withLength_other other ⟨_, rfl⟩
  · rintro p t d segs s u rfl other multiple low high read
    rw [exec_loadPattern, takeRow_refused _ _ _ _ _ _ _ (actLoadPattern_other other ⟨multiple, low, high⟩ read _)]

/-! ## The permissions of R152 -/

/-- Each command of the first row of R152 makes its checks (R152). -/
theorem callCode_checks {c : Octet} (callCode : c ∈ callCodes) (p : PortId) (r : Request) (s : State) :
    ∃ rest, actionOf c p r s = callCommand p r s rest := by
  simp only [callCodes, List.mem_cons, List.not_mem_nil, or_false] at callCode
  rcases callCode with rfl | rfl | rfl | rfl | rfl | rfl
  all_goals exact ⟨_, rfl⟩

/-- A call command from a port that R152 does not allow (R152, R161). -/
theorem exec_callCommand_refused {p : PortId} {c : Octet} {n : LineId} {s : State} (callCode : c ∈ callCodes)
    (denied : s.boundaryFirst.callPermission n p ≠ none) :
    exec (rowOfRequest p c (lineTarget n) []) s
      = .next (answered p (request c (lineTarget n) [])
          (if (s.boundaryFirst.line n).lat.service = .test then .wrongState else if p = .m then .wrongPort else .notOwner) []
          s.boundaryFirst) := by
  obtain ⟨rest, checks⟩ := callCode_checks callCode p (request c (lineTarget n) []) s.boundaryFirst
  rw [exec_rowOfRequest, takeRow_refused _ _ _ _ _ _ _ (checks.trans (callCommand_refused p c n _ rest denied))]

/-- Settles O11: the three statuses of `exec_callCommand_refused`. -/
theorem callCommandsNeedTheOwner : Obligations.CallCommandsNeedTheOwner := by
  unfold Obligations.CallCommandsNeedTheOwner
  rintro p c n s u rfl callCode
  refine ⟨fun test other => ?_, fun notTest isM => ?_, fun notTest other notOwner => ?_⟩
  · rw [exec_callCommand_refused callCode (by rw [Ne, callPermission_spec]; simp [test, other]), if_pos test]
  · rw [exec_callCommand_refused callCode (by rw [Ne, callPermission_spec]; simp [notTest, isM]), if_neg notTest, if_pos isM]
  · rw [exec_callCommand_refused callCode (by rw [Ne, callPermission_spec]; simp [notTest, notOwner]), if_neg notTest,
      if_neg other]

end Sys2Proof.Machine

namespace Sys2Proof.Machine

/-! ## The commands of ownership and service, for a line -/

section
variable (p : PortId) (c : Octet) (n : LineId) (s : State)

theorem ownedBy_iff : s.ownedBy n p = true ↔ (s.line n).lat.owner.port = some p := by
  simp [State.ownedBy]

theorem port_ne_m {o : Owner} (port : o.port = some p) : p ≠ .m := by
  cases o <;> cases port <;> simp

theorem ownerOf_eq {o : Owner} (port : o.port = some p) : ownerOf p = o := by
  cases o <;> cases port <;> rfl

/-- The second row of R152 where it refuses. -/
theorem servicePermission_refused (denied : s.servicePermission n p ≠ none) :
    s.servicePermission n p = some (if (s.line n).lat.service = .test then .wrongState else .notOwner) := by
  unfold State.servicePermission at denied ⊢
  by_cases isM : p = .m
  · simp [isM] at denied
  · by_cases test : (s.line n).lat.service = .test
    · simp [test, isM]
    · have notOwner : s.ownedBy n p = false := by simpa [test, isM] using denied
      simp [test, isM, notOwner]

theorem actLineReset_line :
    actLineReset p (request c (lineTarget n) []) s
      = permitted (s.servicePermission n p) s (accept [octet (s.line n).ds.queue.length] (s.lineReset n)) :=
  withLine_ok _ _ _ _ n rfl (lineOfOctet_line n)

theorem actAssignProfile_line (i : Octet) :
    actAssignProfile p (request c (lineTarget n) [i]) s
      = match entryOfOctet i with
        | none => refuse .range s
        | some k =>
          permitted (s.servicePermission n p) s
            (if (s.line n).npw.stage = .idle then accept [] (s.assignProfile n k) else refuse .wrongState s) :=
  (withLine_ok _ _ _ _ n rfl (lineOfOctet_line n)).trans (by cases h : entryOfOctet i <;> simp [Request.value, request, Config.requestDataKept, h])

theorem actAssignProfile_entry {i : Octet} {k : Fin 8} (entry : i.toNat = k.val) :
    actAssignProfile p (request c (lineTarget n) [i]) s
      = permitted (s.servicePermission n p) s
          (if (s.line n).npw.stage = .idle then accept [] (s.assignProfile n k) else refuse .wrongState s) := by
  have named : entryOfOctet i = some k := by
    rw [entryOfOctet, dif_pos (by omega)]
    exact congrArg some (Fin.ext entry)
  rw [actAssignProfile_line, named]

theorem actAssignProfile_outside {i : Octet} (outside : 8 ≤ i.toNat) :
    actAssignProfile p (request c (lineTarget n) [i]) s = refuse .range s := by
  rw [actAssignProfile_line, entryOfOctet_outside i outside]

theorem actSetService_line (v : Octet) :
    actSetService p (request c (lineTarget n) [v]) s
      = if 1 < v.toNat then refuse .range s
        else if (s.line n).lat.service = .test then refuse .wrongState s
        else
          permitted (s.servicePermission n p) s
            (accept [octet (s.line n).lat.service.code] (if v = 0 then s.serviceOut n else s.serviceIn n)) :=
  withLine_ok _ _ _ _ n rfl (lineOfOctet_line n)

theorem actClaim_line :
    actClaim p (request c (lineTarget n) []) s
      = if p = .m then refuse .wrongPort s
        else if (s.line n).lat.owner = .none then
          accept [((s.changeOwner n (ownerOf p) .takeover).line n).lat.epoch] (s.changeOwner n (ownerOf p) .takeover)
        else if s.ownedBy n p then accept [(s.line n).lat.epoch] s
        else (⟨.owned, [(s.line n).lat.epoch]⟩, s) :=
  withLine_ok _ _ _ _ n rfl (lineOfOctet_line n)

theorem actRelinquish_line :
    actRelinquish p (request c (lineTarget n) []) s
      = if p = .m then refuse .wrongPort s
        else if s.ownedBy n p then
          accept [((s.changeOwner n .none .relinquish).line n).lat.epoch] (s.changeOwner n .none .relinquish)
        else refuse .notOwner s :=
  withLine_ok _ _ _ _ n rfl (lineOfOctet_line n)

theorem lineTarget_ne_all : lineTarget n ≠ 255 := by
  revert n
  decide

theorem actTakeover_line :
    actTakeover p (request c (lineTarget n) []) s
      = if p = .m then refuse .wrongPort s
        else if s.ownedBy n p then accept [0] s
        else accept [1] (s.changeOwner n (ownerOf p) .takeover) := by
  have line : lineOfOctet (request c (lineTarget n) []).target = some n := lineOfOctet_line n
  have one : (request c (lineTarget n) []).target ≠ 255 := lineTarget_ne_all n
  rw [actTakeover, withLength_noData, if_neg one, line]

theorem actTakeover_all :
    actTakeover p (request c 255 []) s
      = if p = .m then refuse .wrongPort s
        else
          accept [octet (s.peerLines p).length]
            ((s.peerLines p).foldl (fun t n => t.changeOwner n (ownerOf p) .takeover) s) := by
  rw [actTakeover, withLength_noData]
  rfl

theorem actAssign_line (o : Octet) :
    actAssign p (request c (lineTarget n) [o]) s
      = match Owner.ofOctet o with
        | none => refuse .range s
        | some new =>
          onPortM p s
            (accept [octet (s.line n).lat.owner.code]
              (if (s.line n).lat.owner = new then s else s.changeOwner n new .assign)) :=
  (withLine_ok _ _ _ _ n rfl (lineOfOctet_line n)).trans
    (by cases h : Owner.ofOctet o <;> simp [Request.value, request, Config.requestDataKept, h])

end

/-- An owner code names the owner (R151). -/
theorem owner_of_code {o : Octet} {new : Owner} (code : o.toNat = new.code) : Owner.ofOctet o = some new := by
  unfold Owner.ofOctet
  cases new <;> simp [Owner.code] at code <;> simp [code]

/-- An owner code above 2 is undefined (R151). -/
theorem owner_undefined {o : Octet} (above : 2 < o.toNat) : Owner.ofOctet o = none := by
  unfold Owner.ofOctet
  split <;> simp_all

theorem owner_defined {o : Octet} (code : o.toNat ≤ 2) : ∃ new, Owner.ofOctet o = some new := by
  obtain zero | one | two : o.toNat = 0 ∨ o.toNat = 1 ∨ o.toNat = 2 := by omega
  · exact ⟨.none, owner_of_code zero⟩
  · exact ⟨.a, owner_of_code one⟩
  · exact ⟨.b, owner_of_code two⟩

/-! ## Their rows -/

section
variable (p : PortId) (t : Octet) (d : List Octet) (s : State)

theorem exec_lineReset : exec (.lineReset p t d) s = .next (takeRow actLineReset p 0x36 t d s) := rfl

theorem exec_assignProfile : exec (.assignProfile p t d) s = .next (takeRow actAssignProfile p 0x25 t d s) := rfl

theorem exec_setServiceIn : exec (.setServiceIn p t d) s = .next (takeRow actSetService p 0x24 t d s) := rfl

theorem exec_setServiceOut : exec (.setServiceOut p t d) s = .next (takeRow actSetService p 0x24 t d s) := rfl

theorem exec_claim : exec (.claim p t d) s = .next (takeRow actClaim p 0x20 t d s) := rfl

theorem exec_relinquish : exec (.relinquish p t d) s = .next (takeRow actRelinquish p 0x21 t d s) := rfl

theorem exec_takeover : exec (.takeover p t d) s = .next (takeRow actTakeover p 0x22 t d s) := rfl

theorem exec_takeoverAll : exec (.takeoverAll p d) s = .next (takeRow actTakeover p 0x22 255 d s) := rfl

theorem exec_assign : exec (.assign p t d) s = .next (takeRow actAssign p 0x23 t d s) := rfl

end

/-- A port check that refuses, whatever follows it. -/
theorem permitted_refused {s : State} {check : Option Status} {status : Status} (denied : check = some status)
    (rest : Reply × State) : permitted check s rest = refuse status s := by
  rw [denied]
  rfl

theorem permitted_allowed {s : State} {check : Option Status} (allowed : check = none) (rest : Reply × State) :
    permitted check s rest = rest := by
  rw [allowed]
  rfl

/-! ## The ports that may not send them -/

theorem servicePermission_of_test {s : State} {n : LineId} {p : PortId} (test : (s.line n).lat.service = .test)
    (other : p ≠ .m) : s.servicePermission n p = some .wrongState := by
  rw [servicePermission_refused, if_pos test]
  rw [Ne, servicePermission_spec]
  simp [test, other]

theorem servicePermission_of_notOwner {s : State} {n : LineId} {p : PortId} (notTest : (s.line n).lat.service ≠ .test)
    (other : p ≠ .m) (notOwner : (s.line n).lat.owner.port ≠ some p) : s.servicePermission n p = some .notOwner := by
  rw [servicePermission_refused, if_neg notTest]
  rw [Ne, servicePermission_spec]
  simp [notOwner, other]

/-- LINE_RESET and ASSIGN_PROFILE from a port that the second row of R152 does not allow. -/
theorem service_row_refused {p : PortId} {n : LineId} {s : State} {status : Status}
    (denied : s.boundaryFirst.servicePermission n p = some status) :
    exec (.lineReset p (lineTarget n) []) s
        = .next (answered p (request 0x36 (lineTarget n) []) status [] s.boundaryFirst)
      ∧ ∀ i : Octet, i.toNat < 8 →
        exec (.assignProfile p (lineTarget n) [i]) s
          = .next (answered p (request 0x25 (lineTarget n) [i]) status [] s.boundaryFirst) := by
  refine ⟨?_, fun i entry => ?_⟩
  · rw [exec_lineReset, takeRow_refused]
    rw [actLineReset_line, permitted_refused denied]
  · rw [exec_assignProfile, takeRow_refused]
    rw [actAssignProfile_entry (k := ⟨i.toNat, entry⟩) p 0x25 n _ rfl, permitted_refused denied]

theorem setService_refused {p : PortId} {n : LineId} {s : State} {v : Octet} {status : Status} (value : v.toNat ≤ 1)
    (denied : (s.line n).lat.service = .test ∧ status = .wrongState
      ∨ (s.line n).lat.service ≠ .test ∧ s.servicePermission n p = some status) :
    actSetService p (request 0x24 (lineTarget n) [v]) s = refuse status s := by
  rw [actSetService_line, if_neg (by omega)]
  rcases denied with ⟨test, rfl⟩ | ⟨notTest, denied⟩
  · rw [if_pos test]
  · rw [if_neg notTest, permitted_refused denied]

/-- Settles O12: the port checks of the actions, read off from their forms for a line. -/
theorem serviceAndOwnershipCommandsNeedTheirPort : Obligations.ServiceAndOwnershipCommandsNeedTheirPort := by
  unfold Obligations.ServiceAndOwnershipCommandsNeedTheirPort
  rintro p n s u rfl
  refine ⟨fun test other => service_row_refused (servicePermission_of_test test other), fun notTest other notOwner => ?owner,
    fun test => ?inTest, fun other notOwner => ?relinquish, fun isM => ?portM, fun other o code => ?assign⟩
  case owner =>
    have denied := servicePermission_of_notOwner notTest other notOwner
    obtain ⟨lineReset, assignProfile⟩ := service_row_refused denied
    refine ⟨lineReset, assignProfile, ?_, ?_⟩
    · rw [exec_setServiceOut, takeRow_refused _ _ _ _ _ _ _ (setService_refused (by decide) (.inr ⟨notTest, denied⟩))]
    · rw [exec_setServiceIn, takeRow_refused _ _ _ _ _ _ _ (setService_refused (by decide) (.inr ⟨notTest, denied⟩))]
  case inTest =>
    constructor
    · rw [exec_setServiceOut, takeRow_refused _ _ _ _ _ _ _ (setService_refused (by decide) (.inl ⟨test, rfl⟩))]
    · rw [exec_setServiceIn, takeRow_refused _ _ _ _ _ _ _ (setService_refused (by decide) (.inl ⟨test, rfl⟩))]
  case relinquish =>
    rw [exec_relinquish, takeRow_refused]
    rw [actRelinquish_line, if_neg other, if_neg (by rwa [ownedBy_iff])]
  case portM =>
    refine ⟨?_, ?_, ?_, ?_⟩
    · rw [exec_relinquish, takeRow_refused]
      rw [actRelinquish_line, if_pos isM]
    · rw [exec_claim, takeRow_refused]
      rw [actClaim_line, if_pos isM]
    · rw [exec_takeover, takeRow_refused]
      rw [actTakeover_line, if_pos isM]
    · rw [exec_takeoverAll, takeRow_refused]
      rw [actTakeover_all, if_pos isM]
  case assign =>
    obtain ⟨new, named⟩ := owner_defined code
    rw [exec_assign, takeRow_refused]
    rw [actAssign_line, named]
    exact onPortM_other other _ _

/-! ## ASSIGN_PROFILE -/

theorem assignProfile_eq (s : State) (n : LineId) (k : Fin 8) :
    s.assignProfile n k
      = s.updLine n fun l =>
          { l with
            pt := { l.pt with profileIndex := k }, pd := { l.pd with period := s.profiles[k].periodInitial * 16 } } := by
  unfold State.assignProfile
  simp only [updPt_eq, updPd_eq, updLine_updLine, State.liveEntry, line_updLine_self, profiles_updLine]

/-- Settles O18: the outcomes of `actAssignProfile_entry` for a port that R152 allows. -/
theorem assignProfileSetsIndexAndEstimate : Obligations.AssignProfileSetsIndexAndEstimate := by
  unfold Obligations.AssignProfileSetsIndexAndEstimate
  rintro p n i s u rfl
  refine ⟨fun outside => ?_, fun allowed => ⟨fun inCall entry => ?_, fun k entry idle => ?_⟩⟩
  · rw [exec_assignProfile, takeRow_refused _ _ _ _ _ _ _ (actAssignProfile_outside p _ n _ outside)]
  · rw [exec_assignProfile, takeRow_refused]
    rw [actAssignProfile_entry (k := ⟨i.toNat, entry⟩) p _ n _ rfl,
      permitted_allowed ((servicePermission_spec _ n p).mpr allowed), if_neg inCall]
  · rw [exec_assignProfile, takeRow_accepted]
    rw [actAssignProfile_entry p _ n _ entry, permitted_allowed ((servicePermission_spec _ n p).mpr allowed), if_pos idle,
      assignProfile_eq]

/-! ## Changes of owner -/

theorem sendOwnerChange_eq (s : State) (n : LineId) (old new : Owner) (cause : OwnerCause) :
    s.sendOwnerChange n old new cause
      = match old.port with
        | some q => s.updPort q fun x => x.accept (s.event .ownerChange n 0 new.code cause.code)
        | none => s := by
  unfold State.sendOwnerChange
  rfl

theorem sendSnapshot_eq (s : State) (n : LineId) (new : Owner) :
    s.sendSnapshot n new
      = match new.port with
        | some q =>
          s.updPort q fun x =>
            x.accept (s.event .snapshot n (s.line n).pd.seq (s.line n).snapshotArg (s.line n).ds.queue.length)
        | none => s := by
  unfold State.sendSnapshot
  rfl

/-- The owner and the epoch that a change of owner writes (R143). -/
def ownerWritten (s : State) (n : LineId) (new : Owner) : State :=
  s.updLine n fun x => { x with lat := { x.lat with owner := new, epoch := x.lat.epoch + 1 } }

theorem changeOwner_eq (s : State) (n : LineId) (new : Owner) (cause : OwnerCause) :
    s.changeOwner n new cause
      = ((ownerWritten s n new).sendOwnerChange n (s.line n).lat.owner new cause).sendSnapshot n new := rfl

/-- Settles O19: the two records of `changeOwner_eq`, each to its port. -/
theorem changeOfOwnerRecords : Obligations.ChangeOfOwnerRecords := by
  unfold Obligations.ChangeOfOwnerRecords
  rintro s n new cause l rfl
  refine ⟨fun old now from_ to_ => ?_, fun old from_ to_ => ?_, fun now from_ to_ => ?_⟩
  · rw [changeOwner_eq, sendOwnerChange_eq, sendSnapshot_eq, from_, to_]
    simp only [State.event, line_updPort, timestamp_updPort]
    simp only [ownerWritten, line_updLine_self]
    rfl
  · rw [changeOwner_eq, sendOwnerChange_eq, sendSnapshot_eq, from_, to_]
    simp only [State.event, ownerWritten, line_updLine_self]
    rfl
  · rw [changeOwner_eq, sendOwnerChange_eq, sendSnapshot_eq, from_, to_]
    simp only [State.event, ownerWritten, line_updLine_self]
    rfl

theorem line_changeOwner (s : State) (n m : LineId) (new : Owner) (cause : OwnerCause) :
    (s.changeOwner n new cause).line m
      = if m = n then { s.line n with lat := { (s.line n).lat with owner := new, epoch := (s.line n).lat.epoch + 1 } }
        else s.line m := by
  rw [changeOwner_frame]
  exact line_updLine s n m fun x => { x with lat := { x.lat with owner := new, epoch := x.lat.epoch + 1 } }

/-- No owner's port is M, so that a change of owner leaves it. -/
theorem portM_changeOwner (s : State) (n : LineId) (new : Owner) (cause : OwnerCause) :
    (s.changeOwner n new cause).portM = s.portM := by
  unfold State.changeOwner State.sendOwnerChange State.sendSnapshot
  cases (s.line n).lat.owner <;> cases new <;> rfl

/-- Settles O20: the outcomes of `actClaim_line` and `actRelinquish_line` by the owner of the line. -/
theorem claimAndRelinquishMoveOneLine : Obligations.ClaimAndRelinquishMoveOneLine := by
  unfold Obligations.ClaimAndRelinquishMoveOneLine
  constructor
  · rintro p me n s u rfl port
    have notM := port_ne_m p port
    refine ⟨fun unowned => ?_, fun mine => ?_, fun owned other => ?_⟩
    · rw [exec_claim, takeRow_accepted]
      rw [actClaim_line, if_neg notM, if_pos unowned, ownerOf_eq p port, line_changeOwner, if_pos rfl]
    · have owned : (s.boundaryFirst.line n).lat.owner ≠ .none := by rw [mine]; rintro rfl; cases port
      rw [exec_claim, takeRow_accepted]
      rw [actClaim_line, if_neg notM, if_neg owned, if_pos ((ownedBy_iff ..).mpr (mine ▸ port))]
    · have notMine : ¬ s.boundaryFirst.ownedBy n p = true := by
        rw [ownedBy_iff]
        intro theirs
        exact other ((ownerOf_eq p theirs).symm.trans (ownerOf_eq p port))
      rw [exec_claim, takeRow_eq_answered _ _ _ _ _ _ ⟨.owned, [(s.boundaryFirst.line n).lat.epoch]⟩ s.boundaryFirst]
      rw [actClaim_line, if_neg notM, if_neg owned, if_neg notMine]
  · rintro p n s u rfl port
    rw [exec_relinquish, takeRow_accepted]
    rw [actRelinquish_line, if_neg (port_ne_m p port), if_pos ((ownedBy_iff ..).mpr port), line_changeOwner, if_pos rfl]

/-- Changes of owner of several lines: each has its own, and of the rest only the ports A and B change (R149). -/
theorem foldl_changeOwner (ns : List LineId) (s : State) (new : Owner) (cause : OwnerCause) (once : ns.Nodup) :
    (∀ m, (ns.foldl (fun t n => t.changeOwner n new cause) s).line m
        = if m ∈ ns then { s.line m with lat := { (s.line m).lat with owner := new, epoch := (s.line m).lat.epoch + 1 } }
          else s.line m)
      ∧ ∃ lines a b, ns.foldl (fun t n => t.changeOwner n new cause) s = { s with lines := lines, portA := a, portB := b } := by
  induction ns generalizing s with
  | nil => exact ⟨fun m => by simp, s.lines, s.portA, s.portB, rfl⟩
  | cons n rest ih =>
    obtain ⟨fresh, once⟩ := List.nodup_cons.mp once
    obtain ⟨line, lines, a, b, frame⟩ := ih (s.changeOwner n new cause) once
    refine ⟨fun m => ?_, lines, a, b, ?_⟩
    · rw [List.foldl_cons, line, line_changeOwner]
      by_cases same : m = n
      · subst same; simp [fresh]
      · simp [same]
    · rw [List.foldl_cons, frame, changeOwner_frame, portM_changeOwner]

/-- Settles O21: the outcomes of `actTakeover_line`, and for 255 the changes of `foldl_changeOwner`. -/
theorem takeoverTakesFromThePeer : Obligations.TakeoverTakesFromThePeer := by
  unfold Obligations.TakeoverTakesFromThePeer
  constructor
  · rintro p me n s u rfl port
    have mine : s.boundaryFirst.ownedBy n p = true ↔ (s.boundaryFirst.line n).lat.owner = me := by
      rw [ownedBy_iff]
      exact ⟨fun theirs => (ownerOf_eq p theirs).symm.trans (ownerOf_eq p port), fun same => same ▸ port⟩
    refine ⟨fun same => ?_, fun other => ?_⟩
    · rw [exec_takeover, takeRow_accepted]
      rw [actTakeover_line, if_neg (port_ne_m p port), if_pos (mine.mpr same)]
    · rw [exec_takeover, takeRow_accepted]
      rw [actTakeover_line, if_neg (port_ne_m p port), if_neg (mt mine.mp other), ownerOf_eq p port]
  · rintro p me peer s u rfl sides
    obtain ⟨notM, me_eq, peer_eq⟩ : p ≠ .m ∧ ownerOf p = me ∧ peerOf p = peer := by
      rcases sides with ⟨rfl, rfl, rfl⟩ | ⟨rfl, rfl, rfl⟩ <;> simp [ownerOf, peerOf]
    have lines : s.boundaryFirst.peerLines p
        = allLines.filter fun n => decide ((s.boundaryFirst.line n).lat.owner = peer) := by
      simp [State.peerLines, peer_eq, beq_eq_decide]
    have member (n : LineId) : n ∈ s.boundaryFirst.peerLines p ↔ (s.boundaryFirst.line n).lat.owner = peer := by
      simp [lines, allLines]
    have once : (s.boundaryFirst.peerLines p).Nodup := (List.nodup_finRange 32).filter _
    obtain ⟨line, ls, a, b, frame⟩ := foldl_changeOwner _ s.boundaryFirst me .takeover once
    refine ⟨_, ?_, rfl, ?_⟩
    · rw [exec_takeoverAll, takeRow_accepted]
      rw [actTakeover_all, if_neg notM, me_eq, lines]
    · rw [← lines]
      refine ⟨fun n theirs => ?_, fun n other => ?_, ?_⟩
      · rw [line, if_pos ((member n).mpr theirs)]
      · rw [line, if_neg (mt (member n).mp other)]
      · rw [frame]

/-- Settles O22: the outcomes of `actAssign_line`. -/
theorem assignSetsTheOwner : Obligations.AssignSetsTheOwner := by
  unfold Obligations.AssignSetsTheOwner
  rintro n o new s u rfl
  refine ⟨fun code other => ?_, fun code same => ?_, fun above p => ?_⟩
  · rw [exec_assign, takeRow_accepted]
    rw [actAssign_line, owner_of_code code]
    show accept _ (if _ then _ else _) = _
    rw [if_neg other]
  · rw [exec_assign, takeRow_accepted]
    rw [actAssign_line, owner_of_code code]
    show accept _ (if _ then _ else _) = _
    rw [if_pos same]
  · rw [exec_assign, takeRow_refused]
    rw [actAssign_line, owner_undefined above]

/-! ## SET_SERVICE -/

/-- SET_SERVICE from a port that R152 allows, with a value 0 or 1, on a line not in TEST (R153). -/
theorem actSetService_allowed {p : PortId} {n : LineId} {s : State} {v : Octet} (value : v.toNat ≤ 1)
    (notTest : (s.line n).lat.service ≠ .test) (allowed : p = .m ∨ (s.line n).lat.owner.port = some p) :
    actSetService p (request 0x24 (lineTarget n) [v]) s
      = accept [octet (s.line n).lat.service.code] (if v = 0 then s.serviceOut n else s.serviceIn n) := by
  have permission : s.servicePermission n p = none :=
    (servicePermission_spec s n p).mpr (allowed.imp_right fun owner => ⟨notTest, owner⟩)
  rw [actSetService_line, if_neg (by omega), if_neg notTest, permitted_allowed permission]

theorem serviceIn_of_out {s : State} {n : LineId} (out : (s.line n).lat.service = .outOfService) :
    s.serviceIn n = s.updLine n fun l => { l with lat := { l.lat with service := .inService } } := if_pos out

theorem serviceOut_of_in {s : State} {n : LineId} (inService : (s.line n).lat.service = .inService) :
    s.serviceOut n = (s.lineReset n).updLine n fun l => { l with lat := { l.lat with service := .outOfService } } :=
  if_pos inService

/-- Settles O23: the outcomes of `actSetService_allowed`, where the line is already so and where it is not. -/
theorem setServiceMovesTheLine : Obligations.SetServiceMovesTheLine := by
  unfold Obligations.SetServiceMovesTheLine
  rintro p n s u rfl
  refine ⟨fun v above => ?range, fun allowed => ⟨fun out => ⟨?_, ?_⟩, fun inService => ⟨?_, ?_⟩⟩⟩
  case range =>
    rw [exec_setServiceIn, takeRow_refused]
    rw [actSetService_line, if_pos above]
  · rw [exec_setServiceIn, takeRow_accepted _ _ _ _ _ _ _ _
      (actSetService_allowed (by decide) (by simp [out]) allowed), if_neg (by decide), serviceIn_of_out out, out]
    rfl
  · rw [exec_setServiceOut, takeRow_accepted _ _ _ _ _ _ _ _
      (actSetService_allowed (by decide) (by simp [out]) allowed), if_pos rfl, State.serviceOut, if_neg (by simp [out]), out]
    rfl
  · rw [exec_setServiceIn, takeRow_accepted _ _ _ _ _ _ _ _
      (actSetService_allowed (by decide) (by simp [inService]) allowed), if_neg (by decide), State.serviceIn,
      if_neg (by simp [inService]), inService]
    rfl
  · rw [exec_setServiceOut, takeRow_accepted _ _ _ _ _ _ _ _
      (actSetService_allowed (by decide) (by simp [inService]) allowed), if_pos rfl, serviceOut_of_in inService, inService]
    rfl

end Sys2Proof.Machine

namespace Sys2Proof.Machine

/-! ## The call commands, for a line and a port that may act on it -/

section
variable {p : PortId} {n : LineId} {s : State} (c : Octet) (allowed : s.callPermission n p = none)
include allowed

theorem actProceed_allowed :
    actProceed p (request c (lineTarget n) []) s
      = if (s.line n).npw.stage = .idle then refuse .wrongState s
        else accept [flagOctet (s.line n).es.gate] (if (s.line n).es.gate then s else s.openGate n) :=
  callCommand_allowed p c n s _ allowed

theorem actCutThrough_allowed :
    actCutThrough p (request c (lineTarget n) []) s
      = match (s.line n).npw.stage with
        | .idle => refuse .wrongState s
        | .conversation => accept [octet Stage.conversation.code] s
        | .dialling => accept [octet Stage.dialling.code] (s.cutThrough n)
        | .rejected => accept [octet Stage.rejected.code] (s.cutThrough n) :=
  (callCommand_allowed p c n s _ allowed).trans (by cases (s.line n).npw.stage <;> rfl)

theorem actPlanRelease_allowed :
    actPlanRelease p (request c (lineTarget n) []) s
      = if (s.line n).onHold then accept [octet (s.planRelease n).1] (s.planRelease n).2 else refuse .wrongState s :=
  callCommand_allowed p c n s _ allowed

theorem actPlanDiscard_allowed :
    actPlanDiscard p (request c (lineTarget n) []) s
      = if (s.line n).onHold then accept [octet (splitAtHeld (s.line n).ds.queue).2.length] (s.planDiscard n)
        else refuse .wrongState s :=
  callCommand_allowed p c n s _ allowed

theorem actPurge_allowed :
    actPurge p (request c (lineTarget n) []) s
      = accept [octet (s.line n).ds.notEmitting.length] ((s.purgeWaiting n).reviewRequest n) :=
  callCommand_allowed p c n s _ allowed

end

section
variable (p : PortId) (t : Octet) (d : List Octet) (s : State)

theorem exec_proceed : exec (.proceed p t d) s = .next (takeRow actProceed p 0x30 t d s) := rfl

theorem exec_cutThrough : exec (.cutThrough p t d) s = .next (takeRow actCutThrough p 0x31 t d s) := rfl

theorem exec_planRelease : exec (.planRelease p t d) s = .next (takeRow actPlanRelease p 0x32 t d s) := rfl

theorem exec_planDiscard : exec (.planDiscard p t d) s = .next (takeRow actPlanDiscard p 0x33 t d s) := rfl

theorem exec_purge : exec (.purge p t d) s = .next (takeRow actPurge p 0x35 t d s) := rfl

end

/-! ## PROCEED -/

/-- Settles O24: the outcomes of `actProceed_allowed` by the stage and the gate. -/
theorem proceedOpensTheGate : Obligations.ProceedOpensTheGate := by
  unfold Obligations.ProceedOpensTheGate
  rintro p n s u rfl allowed
  refine ⟨fun idle => ?_, fun inCall isOpen => ?_, fun inCall isClosed => ?_⟩
  · rw [exec_proceed, takeRow_refused]
    rw [actProceed_allowed _ allowed, if_pos idle]
  · rw [exec_proceed, takeRow_accepted]
    rw [actProceed_allowed _ allowed, if_neg inCall, if_pos isOpen, isOpen]
    rfl
  · rw [exec_proceed, takeRow_accepted]
    rw [actProceed_allowed _ allowed, if_neg inCall, if_neg (by simp [isClosed]), isClosed]
    rfl

/-! ## The request conditions -/

/-- A rising list goes on rising with a line put in its place (R112). -/
theorem insertLine_pairwise {n : LineId} {joined : List LineId} (rising : joined.Pairwise (· < ·)) (fresh : n ∉ joined) :
    (insertLine n joined).Pairwise (· < ·) := by
  induction joined with
  | nil => simp [insertLine]
  | cons m rest ih =>
    obtain ⟨first, rising⟩ := List.pairwise_cons.mp rising
    obtain ⟨other, fresh⟩ : n ≠ m ∧ n ∉ rest := by simpa using fresh
    unfold insertLine
    split
    · next less =>
      refine List.pairwise_cons.mpr ⟨fun k hk => ?_, List.pairwise_cons.mpr ⟨first, rising⟩⟩
      rcases List.mem_cons.mp hk with rfl | hk
      · exact less
      · exact less.trans (first k hk)
    · next notLess =>
      refine List.pairwise_cons.mpr ⟨fun k hk => ?_, ih rising fresh⟩
      rcases (mem_insertLine n k rest).mp hk with rfl | hk
      · exact lt_of_le_of_ne (not_lt.mp notLess) (Ne.symm other)
      · exact first k hk

/-- Settles O25: where a line is put is `insertLine_splits`; the conditions are those of `requests_iff`. -/
theorem requestConditionsDecideWaiting : Obligations.RequestConditionsDecideWaiting := by
  unfold Obligations.RequestConditionsDecideWaiting
  refine ⟨fun n joined => ⟨insertLine_splits n joined, insertLine_pairwise⟩, fun s n conditions spelled => ?_⟩
  have meets : (s.line n).requests = true ↔ conditions := (requests_iff _).trans spelled.symm
  refine ⟨fun idle holds => ?_, fun waiting fails => ?_, fun idle fails => ?_, fun waiting holds => ?_, fun tone => ?_⟩
  · rw [State.reviewRequest, idle]
    exact if_pos (meets.mpr holds)
  · rw [State.reviewRequest, waiting]
    exact if_neg (mt meets.mp fails)
  · rw [State.reviewRequest, idle]
    exact if_neg (mt meets.mp fails)
  · rw [State.reviewRequest, waiting]
    exact if_pos (meets.mpr holds)
  · rcases tone with on | off
    · rw [State.reviewRequest, on]
    · rw [State.reviewRequest, off]

/-! ## CUT_THROUGH -/

theorem cutThrough_eq (s : State) (n : LineId) :
    s.cutThrough n
      = (s.updLine n fun l =>
          { l with
            ds := { l.ds with queue := l.ds.queue.map fun r => { r with mark := .none } }
            npw := { l.npw with stage := .conversation, held := false, completePending := false, timer := none } }).reviewRequest
        n := by
  unfold State.cutThrough State.remark
  simp only [updDs_eq, updNpw_eq, updLine_updLine]
  rfl

/-- Settles O26: the outcomes of `actCutThrough_allowed` by the stage. -/
theorem cutThroughMovesToConversation : Obligations.CutThroughMovesToConversation := by
  unfold Obligations.CutThroughMovesToConversation
  rintro p n s u rfl allowed
  refine ⟨fun idle => ?_, fun conversation => ?_, fun before => ?_⟩
  · rw [exec_cutThrough, takeRow_refused]
    rw [actCutThrough_allowed _ allowed, idle]
  · rw [exec_cutThrough, takeRow_accepted]
    rw [actCutThrough_allowed _ allowed, conversation]
    rfl
  · rw [exec_cutThrough, takeRow_accepted]
    rw [actCutThrough_allowed _ allowed]
    rcases before with dialling | rejected
    · rw [dialling, if_pos rfl, ← cutThrough_eq]
      rfl
    · rw [rejected, if_neg (by simp), ← cutThrough_eq]
      rfl

/-! ## PLAN_RELEASE -/

/-- The line after step 1 of R97. -/
theorem endHold_eq (s : State) (n : LineId) :
    s.endHold n
      = s.updLine n fun l =>
          { l with
            npw := { l.npw with held := false, node := l.npw.savedNode }
            ds := { l.ds with
              queue := l.ds.queue.map fun r => { r with mark := if r.mark = .held then .none else r.mark } } } := by
  unfold State.endHold State.remark
  simp only [updDs_eq, updNpw_eq, updLine_updLine]

/-- Step 1 of R97 leaves the UNWALKED records as they are. -/
theorem unwalked_endHold (q : List DigitRecord) :
    (q.map fun r => { r with mark := if r.mark = .held then .none else r.mark }).filter (fun r => r.mark == .unwalked)
      = q.filter fun r => decide (r.mark = .unwalked) := by
  induction q with
  | nil => rfl
  | cons r rest ih =>
    obtain ⟨number, symbol, pulses, flags, seq, decodedAt, mark⟩ := r
    cases mark <;> simp_all

theorem planRelease_eq (s : State) (n : LineId) :
    s.planRelease n
      = (((s.endHold n).rewalk n ((s.line n).ds.queue.filter fun r => decide (r.mark = .unwalked))).1,
          ((s.endHold n).rewalk n ((s.line n).ds.queue.filter fun r => decide (r.mark = .unwalked))).2.reviewRequest n) := by
  have records : ((s.endHold n).line n).ds.queue.filter (fun r => r.mark == .unwalked)
      = (s.line n).ds.queue.filter fun r => decide (r.mark = .unwalked) := by
    rw [endHold_eq, line_updLine_self]
    exact unwalked_endHold _
  rw [State.planRelease, records]

theorem remarkOne_eq (s : State) (n : LineId) (number : Fin 256) (m : Mark) :
    s.remarkOne n number m
      = s.updLine n fun l =>
          { l with
            ds := { l.ds with
              queue := l.ds.queue.map fun x => { x with mark := if x.number = number then m else x.mark } } } := rfl

/-- The re-walk stops after a record that sets a flag or rejects, with the record counted (R97). -/
theorem rewalk_stops {s : State} {n : LineId} {r : DigitRecord} {rest : List DigitRecord} {d : Fin 10}
    (symbol : r.symbol = .digit d)
    (stops : ((s.rewalkOne n r d).line n).npw.held = true ∨ ((s.rewalkOne n r d).line n).npw.completePending = true
      ∨ ((s.rewalkOne n r d).line n).npw.stage ≠ .dialling) :
    s.rewalk n (r :: rest) = (1, s.rewalkOne n r d) := by
  rw [State.rewalk, symbol]
  exact if_pos (by simpa [or_assoc] using stops)

/-- Else it goes on with the next record (R97). -/
theorem rewalk_goesOn {s : State} {n : LineId} {r : DigitRecord} {rest : List DigitRecord} {d : Fin 10}
    (symbol : r.symbol = .digit d) (held : ((s.rewalkOne n r d).line n).npw.held = false)
    (pending : ((s.rewalkOne n r d).line n).npw.completePending = false)
    (dialling : ((s.rewalkOne n r d).line n).npw.stage = .dialling) :
    s.rewalk n (r :: rest) = (((s.rewalkOne n r d).rewalk n rest).1 + 1, ((s.rewalkOne n r d).rewalk n rest).2) := by
  rw [State.rewalk, symbol]
  exact if_neg (by simp [held, pending, dialling])

theorem reachComplete_eq (s : State) (n : LineId) (seq : BitVec 8) :
    s.reachComplete n seq
      = (s.updLine n fun l => { l with npw := { l.npw with completePending := true } }).send .planComplete n seq
          (s.line n).npw.node.val (s.line n).npw.walked := by
  unfold State.reachComplete
  simp only [updNpw_eq, line_updLine_self]

theorem reachHold_eq (s : State) (n : LineId) (saved : Fin 64) (seq : BitVec 8) (symbol : Fin 10) :
    s.reachHold n saved seq symbol
      = (s.updLine n fun l => { l with npw := { l.npw with held := true, savedNode := saved } }).send .planHold n seq
          (s.line n).npw.node.val symbol.val := by
  unfold State.reachHold
  simp only [updNpw_eq, line_updLine_self]

/-- Below the digit limit the branch of the current node decides the re-walk of a record (R97). -/
theorem rewalkOne_below {s : State} {n : LineId} (r : DigitRecord) (d : Fin 10) (below : (s.line n).npw.walked < 24) :
    s.rewalkOne n r d
      = let w := s.updLine n fun l => { l with npw := { l.npw with walked := l.npw.walked + 1 } }
        match (s.plan[(s.line n).npw.node])[d] with
        | .cont target =>
          (w.remarkOne n r.number .none).updLine n fun l => { l with npw := { l.npw with node := target } }
        | .complete => (w.remarkOne n r.number .none).reachComplete n r.seq
        | .hold target => (w.remarkOne n r.number .held).reachHold n target r.seq d
        | .reject => w.reject n .noRoute r.seq := by
  have branch : (s.updNpw n fun w => { w with walked := w.walked + 1 }).branchFor n d
      = (s.plan[(s.line n).npw.node])[d] := by
    have node : ((s.updNpw n fun w => { w with walked := w.walked + 1 }).line n).npw.node = (s.line n).npw.node := by simp
    exact congrArg (fun k : Fin 64 => (s.plan[k])[d]) node
  have limit : ¬ Config.digitLimit ≤ (s.line n).npw.walked := Nat.not_le.mpr below
  rw [State.rewalkOne, if_neg limit]
  dsimp only
  rw [branch]
  rfl

/-- Settles O27: PLAN_RELEASE is `planRelease_eq`; one record's re-walk is `rewalkOne_below`. -/
theorem planReleaseRewalksTheQueue : Obligations.PlanReleaseRewalksTheQueue := by
  unfold Obligations.PlanReleaseRewalksTheQueue
  refine ⟨?row, ?record⟩
  case row =>
    rintro p n s u v rfl allowed rfl
    rw [← endHold_eq]
    refine ⟨fun notHeld => ?_, fun dialling held none => ?_, fun dialling held => ?_⟩
    · rw [exec_planRelease, takeRow_refused]
      rw [actPlanRelease_allowed _ allowed, if_neg (mt (onHold_iff _).mp notHeld)]
    · have empty : ((s.boundaryFirst.line n).ds.queue.filter fun r => decide (r.mark = .unwalked)) = [] :=
        List.filter_eq_nil_iff.mpr fun r hr => by simpa using none r hr
      rw [exec_planRelease, takeRow_accepted]
      rw [actPlanRelease_allowed _ allowed, if_pos ((onHold_iff _).mpr ⟨dialling, held⟩), planRelease_eq, empty]
      rfl
    · rw [exec_planRelease, takeRow_accepted]
      rw [actPlanRelease_allowed _ allowed, if_pos ((onHold_iff _).mpr ⟨dialling, held⟩), planRelease_eq]
  case record =>
    rintro s w n r rest d marked symbol rfl marked_eq
    refine ⟨fun limit => if_pos limit, fun below => ?_, rewalk_stops symbol, rewalk_goesOn symbol⟩
    rw [rewalkOne_below r d below]
    simp only [marked_eq, ← remarkOne_eq]
    refine ⟨fun k branch => ?_, fun branch => ?_, fun k branch => ?_, fun branch => ?_⟩
    · rw [branch]
    · rw [branch]
      dsimp only
      rw [reachComplete_eq, remarkOne_eq, line_updLine_self, line_updLine_self]
    · rw [branch]
      dsimp only
      rw [reachHold_eq, remarkOne_eq, line_updLine_self, line_updLine_self]
    · rw [branch]

/-! ## PLAN_DISCARD -/

/-- With a HELD record the queue is split there (R82). -/
theorem splitAtHeld_of_held {ahead behind : List DigitRecord} {held : DigitRecord} (before : ∀ r ∈ ahead, r.mark ≠ .held)
    (mark : held.mark = .held) : splitAtHeld (ahead ++ held :: behind) = (ahead, held :: behind) := by
  have some_ : (ahead ++ held :: behind).any (fun r => r.mark == .held) = true := by simp [mark]
  have keep (r : DigitRecord) (hr : r ∈ ahead) : (r.mark != .held) = true := by simpa using before r hr
  rw [splitAtHeld, if_pos some_, List.takeWhile_append_of_pos keep, List.dropWhile_append_of_pos keep]
  simp [mark]

/-- Without a HELD record the UNWALKED ones are removed (R82). -/
theorem splitAtHeld_of_none {q : List DigitRecord} (none : ∀ r ∈ q, r.mark ≠ .held) :
    splitAtHeld q = (q.filter fun r => decide (r.mark ≠ .unwalked), q.filter fun r => decide (r.mark = .unwalked)) := by
  have any : ¬ q.any (fun r => r.mark == .held) = true := by simpa using none
  rw [splitAtHeld, if_neg any]
  simp [beq_eq_decide, bne]

theorem planDiscard_eq {s : State} {n : LineId} {kept gone : List DigitRecord}
    (split : splitAtHeld (s.line n).ds.queue = (kept, gone)) :
    s.planDiscard n
      = (({ s.updLine n (fun l =>
            { l with
              ds := { l.ds with queue := kept }
              npw := { l.npw with stage := .rejected, held := false, completePending := false, timer := none } }) with
          freeList := s.freeList ++ gone.map DigitRecord.number }).send .planReject n 0 3 gone.length).reviewRequest n := by
  unfold State.planDiscard State.takeOff
  rw [split]
  simp [State.updLine, NpwLine.toRejected]

/-- Settles O28: the split of the queue with and without a HELD record. -/
theorem planDiscardRemovesFromTheHeldRecord : Obligations.PlanDiscardRemovesFromTheHeldRecord := by
  unfold Obligations.PlanDiscardRemovesFromTheHeldRecord
  rintro p n s u ahead behind held rfl allowed
  refine ⟨fun notHeld => ?_, fun dialling hold queue before mark => ?_, fun dialling hold none => ?_⟩
  · rw [exec_planDiscard, takeRow_refused]
    rw [actPlanDiscard_allowed _ allowed, if_neg (mt (onHold_iff _).mp notHeld)]
  · have split := queue ▸ splitAtHeld_of_held (behind := behind) before mark
    rw [exec_planDiscard, takeRow_accepted]
    rw [actPlanDiscard_allowed _ allowed, if_pos ((onHold_iff _).mpr ⟨dialling, hold⟩), planDiscard_eq split, split]
    rfl
  · have split := splitAtHeld_of_none none
    rw [exec_planDiscard, takeRow_accepted]
    rw [actPlanDiscard_allowed _ allowed, if_pos ((onHold_iff _).mpr ⟨dialling, hold⟩), planDiscard_eq split, split]
    rfl

/-! ## PURGE -/

/-- Settles O30: the records not in emission, with the flag clear and set. -/
theorem purgeKeepsTheRecordInEmission : Obligations.PurgeKeepsTheRecordInEmission := by
  unfold Obligations.PurgeKeepsTheRecordInEmission
  rintro p n s u rfl allowed
  refine ⟨fun clear => ?_, fun head rest set queue => ?_⟩
  · rw [exec_purge, takeRow_accepted]
    rw [actPurge_allowed _ allowed, State.purgeWaiting, DsLine.emitting, DsLine.notEmitting, clear]
    rfl
  · rw [exec_purge, takeRow_accepted]
    rw [actPurge_allowed _ allowed, State.purgeWaiting, DsLine.emitting, DsLine.notEmitting, set, queue]
    rfl

/-! ## LINE_RESET -/

/-- Settles O31: the line reset is `lineReset_eq`. -/
theorem lineResetClearsTheCall : Obligations.LineResetClearsTheCall := by
  unfold Obligations.LineResetClearsTheCall
  refine ⟨?_, lineReset_eq⟩
  rintro p n s u rfl allowed
  rw [exec_lineReset, takeRow_accepted]
  rw [actLineReset_line, permitted_allowed ((servicePermission_spec _ n p).mpr allowed)]

end Sys2Proof.Machine

namespace Sys2Proof.Machine

/-! ## Maintenance commands from port M -/

section
variable (p : PortId) (t : Octet) (d : List Octet) (s : State)

theorem exec_testEnter : exec (.testEnter p t d) s = .next (takeRow actTestEnter p 0x40 t d s) := rfl

theorem exec_testExit : exec (.testExit p t d) s = .next (takeRow actTestExit p 0x41 t d s) := rfl

theorem exec_startPattern : exec (.startPattern p t d) s = .next (takeRow actStartPattern p 0x43 t d s) := rfl

theorem exec_abortPattern : exec (.abortPattern p t d) s = .next (takeRow actAbortPattern p 0x44 t d s) := rfl

theorem exec_watch : exec (.watch p t d) s = .next (takeRow actWatch p 0x45 t d s) := rfl

theorem exec_readWatch : exec (.readWatch p t d) s = .next (takeRow actReadWatch p 0x46 t d s) := rfl

theorem exec_readCheck : exec (.readCheck p t d) s = .next (takeRow actReadCheck p 0x47 t d s) := rfl

theorem exec_readStats : exec (.readStats p t d) s = .next (takeRow actReadStats p 0x48 t d s) := rfl

end

section
variable (c : Octet) (n : LineId) (s : State)

/-- A maintenance command for a line, from port M, passes its shared checks. -/
theorem maintenanceLine_portM (rest : LineId → Reply × State) :
    maintenanceLine .m (request c (lineTarget n) []) s rest = rest n :=
  withLine_ok _ _ _ _ n rfl (lineOfOctet_line n)

theorem actTestEnter_line :
    actTestEnter .m (request c (lineTarget n) []) s
      = if (s.line n).lat.service = .test ∨ (s.line n).npw.stage ≠ .idle then refuse .wrongState s
        else accept [octet (s.line n).lat.service.code] (s.testEnter n) :=
  maintenanceLine_portM c n s _

theorem actTestExit_line :
    actTestExit .m (request c (lineTarget n) []) s
      = if (s.line n).lat.service = .test then
          accept [octet (s.line n).ds.queue.length, octet (s.line n).lat.savedService.code] (s.testExit n)
        else refuse .wrongState s :=
  maintenanceLine_portM c n s _

theorem actStartPattern_line :
    actStartPattern .m (request c (lineTarget n) []) s
      = if s.play.isSome then refuse .busy s
        else if (s.line n).lat.service ≠ .test then refuse .wrongState s
        else
          match s.pattern with
          | none => refuse .wrongState s
          | some segs => accept (be16 (totalDuration segs)) { s with play := some ⟨n, 0, 0⟩ } :=
  (maintenanceLine_portM c n s _).trans (by cases s.pattern <;> rfl)

theorem actReadStats_line :
    actReadStats .m (request c (lineTarget n) []) s
      = accept (s.line n).mu.stats.octets (s.updMu n fun m => { m with stats := {} }) :=
  maintenanceLine_portM c n s _

end

/-! ## TEST_ENTER and TEST_EXIT -/

theorem enterTest_eq (d : PdLine) :
    d.enterTest = if d.state = .seizePending then { d with state := .loopOpen, seizeTimer := 0 } else d := by
  unfold PdLine.enterTest
  split <;> simp [*]

theorem testEnter_eq (s : State) (n : LineId) :
    s.testEnter n
      = s.updLine n fun l =>
          { l with
            ls := { l.ls with candidate := 0 }
            pd := if l.pd.state = .seizePending then { l.pd with state := .loopOpen, seizeTimer := 0 } else l.pd
            lat := { l.lat with service := .test, savedService := l.lat.service }
            mu := { l.mu with testLevel := some .brk }
            due := .nothing } := by
  unfold State.testEnter
  simp only [enterTest_eq]

theorem exec_debouncedStateChange (n : LineId) (s : State) :
    exec (.debouncedStateChange n) s = .next (s.debouncedChange n) := rfl

/-- Settles O32: the outcomes of `actTestEnter_line` and `actTestExit_line`. -/
theorem testEnterAndExitMoveTheLine : Obligations.TestEnterAndExitMoveTheLine := by
  unfold Obligations.TestEnterAndExitMoveTheLine
  constructor
  · rintro n s u rfl
    refine ⟨fun refused => ?_, fun notTest idle => ?_⟩
    · rw [exec_testEnter, takeRow_refused]
      rw [actTestEnter_line, if_pos refused]
    · rw [exec_testEnter, takeRow_accepted]
      rw [actTestEnter_line, if_neg (by simp [notTest, idle]), testEnter_eq]
  · rintro n s u rfl
    refine ⟨fun notTest => ?_, fun test => ⟨_, exec_debouncedStateChange n _, ?_⟩⟩
    · rw [exec_testExit, takeRow_refused]
      rw [actTestExit_line, if_neg notTest]
    · rw [exec_testExit, takeRow_accepted]
      rw [actTestExit_line, if_pos test]
      rfl

/-! ## Patterns -/

/-- The octets of segment k of LOAD_PATTERN data (R180). -/
def segmentAt (d : List Octet) (k : Nat) : Segment where
  level := if (d.getD (3 * k) 0).toNat = 1 then .make else .brk
  duration := (d.getD (3 * k + 1) 0).toNat * 256 + (d.getD (3 * k + 2) 0).toNat

/-- The octets of segment k are such as LOAD_PATTERN allows (R180). -/
def segmentGood (d : List Octet) (k : Nat) : Prop :=
  (d.getD (3 * k) 0).toNat ≤ 1 ∧ 1 ≤ (segmentAt d k).duration ∧ (segmentAt d k).duration ≤ 4095

/-- Data of whole segments, read segment by segment (R180). -/
theorem segmentsOfOctets_spec (count : Nat) (d : List Octet) (size : d.length = 3 * count) :
    ((∃ k < count, ¬ segmentGood d k) → segmentsOfOctets d = none)
      ∧ ((∀ k < count, segmentGood d k) → segmentsOfOctets d = some ((List.range count).map (segmentAt d))) := by
  induction count generalizing d with
  | zero =>
    obtain rfl : d = [] := List.length_eq_zero_iff.mp size
    exact ⟨fun ⟨k, hk, _⟩ => absurd hk (Nat.not_lt_zero k), fun _ => rfl⟩
  | succ count ih =>
    match d, size with
    | l :: hi :: lo :: rest, size =>
      obtain ⟨bad, good⟩ := ih rest (by simp only [List.length_cons] at size; omega)
      have at_succ (k : Nat) : segmentAt (l :: hi :: lo :: rest) (k + 1) = segmentAt rest k := rfl
      have good_succ (k : Nat) : segmentGood (l :: hi :: lo :: rest) (k + 1) ↔ segmentGood rest k := Iff.rfl
      have good_zero : segmentGood (l :: hi :: lo :: rest) 0
          ↔ l.toNat ≤ 1 ∧ 1 ≤ hi.toNat * 256 + lo.toNat ∧ hi.toNat * 256 + lo.toNat ≤ 4095 := Iff.rfl
      rw [segmentsOfOctets_cons]
      constructor
      · rintro ⟨k, below, notGood⟩
        match k with
        | 0 =>
          rw [good_zero] at notGood
          by_cases level : l.toNat ≤ 1
          · rw [if_neg (fun duration => notGood ⟨level, duration⟩)]
          · rw [level_undefined l (by omega)]
            split <;> rfl
        | k + 1 =>
          rw [bad ⟨k, by omega, notGood⟩]
          split
          · cases Level.ofOctet l <;> rfl
          · rfl
      · intro all
        obtain ⟨level, duration⟩ := good_zero.mp (all 0 (Nat.succ_pos _))
        rw [if_pos duration, level_of_le l level, good fun k hk => (good_succ k).mp (all (k + 1) (by omega)),
          List.range_succ_eq_map, List.map_cons, List.map_map]
        rfl

theorem actLoadPattern_portM {c t : Octet} {d : List Octet} (size : d.length % 3 = 0 ∧ 3 ≤ d.length ∧ d.length ≤ 48)
    (s : State) :
    actLoadPattern .m (request c t d) s
      = match segmentsOfOctets d with
        | none => refuse .range s
        | some segs =>
          if s.play.isSome then refuse .busy s else accept [octet segs.length] { s with pattern := some segs } := by
  have kept : (request c t d).data = d := List.take_of_length_le (by show _ ≤ 80; omega)
  rw [actLoadPattern, kept]
  exact (if_pos size).trans (by cases segmentsOfOctets d <;> rfl)

theorem actAbortPattern_portM (c t : Octet) (s : State) :
    actAbortPattern .m (request c t []) s = accept [flagOctet s.play.isSome] { s with play := none } := rfl

/-- Settles O33: the segments by `segmentsOfOctets_spec`, the commands by their forms on port M. -/
theorem patternCommandsLoadStartAndAbort : Obligations.PatternCommandsLoadStartAndAbort := by
  unfold Obligations.PatternCommandsLoadStartAndAbort
  constructor
  · intro d count level duration size spelled
    obtain ⟨bad, good⟩ := segmentsOfOctets_spec count d size
    have isGood (k : Nat) : segmentGood d k ↔ level k ≤ 1 ∧ 1 ≤ duration k ∧ duration k ≤ 4095 := by
      rw [(spelled k).1, (spelled k).2]
      rfl
    refine ⟨fun ⟨k, below, outside⟩ => bad ⟨k, below, fun isIn => ?_⟩, fun all => ?_⟩
    · have := (isGood k).mp isIn
      omega
    · rw [good fun k below => (isGood k).mpr (all k below)]
      congr 2
      funext k
      rw [segmentAt, (spelled k).1, (spelled k).2]
  · rintro t s u rfl
    refine ⟨fun d multiple low high => ⟨fun unread => ?_, fun segs read busy => ?_, fun segs read stopped => ?_⟩,
      fun n => ⟨fun busy => ?_, fun stopped missing => ?_, fun segs stopped test loaded => ?_⟩, ?_⟩
    · rw [exec_loadPattern, takeRow_refused]
      rw [actLoadPattern_portM ⟨multiple, low, high⟩, unread]
    · rw [exec_loadPattern, takeRow_refused]
      rw [actLoadPattern_portM ⟨multiple, low, high⟩, read]
      exact if_pos busy
    · rw [exec_loadPattern, takeRow_accepted]
      rw [actLoadPattern_portM ⟨multiple, low, high⟩, read]
      exact if_neg (by simp [stopped])
    · rw [exec_startPattern, takeRow_refused]
      rw [actStartPattern_line, if_pos busy]
    · rw [exec_startPattern, takeRow_refused]
      rw [actStartPattern_line, if_neg (by simp [stopped])]
      by_cases test : (s.boundaryFirst.line n).lat.service = .test
      · rw [if_neg (not_not.mpr test), missing.resolve_left (not_not.mpr test)]
      · rw [if_pos test]
    · rw [exec_startPattern, takeRow_accepted]
      rw [actStartPattern_line, if_neg (by simp [stopped]), if_neg (not_not.mpr test), loaded]
      rfl
    · rw [exec_abortPattern, takeRow_accepted _ _ _ _ _ _ _ _ (actAbortPattern_portM 0x44 t _)]
      rfl

/-! ## Watch, check record and statistics -/

theorem actWatch_portM {c t : Octet} {selection : Option LineId} (reads : watchOfOctet t = some selection) (s : State) :
    actWatch .m (request c t []) s = accept [lineOctet s.watched] { s with watched := selection, ring := [] } := by
  rw [actWatch, withLength_noData, show watchOfOctet (request c t []).target = some selection from reads]
  rfl

theorem watchOfOctet_line (n : LineId) : watchOfOctet (lineTarget n) = some (some n) := by
  have line : lineOfOctet (lineTarget n) = some n := lineOfOctet_line n
  rw [watchOfOctet, if_neg (lineTarget_ne_all n), line]

theorem actReadWatch_portM (c t : Octet) (s : State) :
    actReadWatch .m (request c t []) s
      = accept ([lineOctet s.watched, octet s.ring.length] ++ s.ring.flatMap WatchEntry.octets) s := rfl

theorem actReadCheck_portM (c t : Octet) (s : State) :
    actReadCheck .m (request c t []) s = accept (checkOctets s.check) s := rfl

theorem pushRing_room {ring : List WatchEntry} {w : WatchEntry} (room : ring.length < 16) : pushRing ring w = ring ++ [w] :=
  if_pos room

theorem pushRing_full {ring : List WatchEntry} {w : WatchEntry} (full : 16 ≤ ring.length) :
    pushRing ring w = ring.drop 1 ++ [w] :=
  (if_neg (Nat.not_lt.mpr full)).trans (by rw [List.drop_one])

/-- Settles O34: an entry of the watched line, and the four commands on port M. -/
theorem watchCheckAndStatisticsAreRead : Obligations.WatchCheckAndStatisticsAreRead := by
  unfold Obligations.WatchCheckAndStatisticsAreRead
  constructor
  · intro s n kind duration verdict
    refine ⟨fun watched room => ?_, fun watched full => ?_, fun other => if_neg other⟩
    · rw [State.watchEntry, if_pos watched, pushRing_room room]
      rfl
    · rw [State.watchEntry, if_pos watched, pushRing_full full]
      rfl
  · rintro t s u rfl
    refine ⟨fun n => ?_, ?_, ?_, fun empty => ?_, fun c record => ?_, fun n m stats => ?_⟩
    · rw [exec_watch, takeRow_accepted _ _ _ _ _ _ _ _ (actWatch_portM (watchOfOctet_line n) _)]
    · rw [exec_watch, takeRow_accepted _ _ _ _ _ _ _ _ (actWatch_portM (selection := none) (if_pos rfl) _)]
    · rw [exec_readWatch, takeRow_accepted _ _ _ _ _ _ _ _ (actReadWatch_portM 0x46 t _)]
      rfl
    · rw [exec_readCheck, takeRow_accepted _ _ _ _ _ _ _ _ (actReadCheck_portM 0x47 t _), empty]
      rfl
    · rw [exec_readCheck, takeRow_accepted _ _ _ _ _ _ _ _ (actReadCheck_portM 0x47 t _), record]
      rfl
    · rw [exec_readStats, takeRow_accepted _ _ _ _ _ _ _ _ (actReadStats_line 0x48 n _), stats]
      rfl

/-! ## Playback -/

theorem exec_patternSegmentAdvance (s : State) : exec .patternSegmentAdvance s = .next s.advanceSegment := rfl

theorem exec_patternDone (s : State) : exec .patternDone s = .next s.endPattern := rfl

/-- Without a current segment playback does nothing (R181). -/
theorem playback_of_none {s : State} (none : s.currentSegment = none) :
    exec .patternSegmentAdvance s = .next s ∧ exec .patternDone s = .next s ∧ s.feedPattern = s := by
  rw [exec_patternSegmentAdvance, exec_patternDone, State.advanceSegment, State.endPattern, State.feedPattern, none]
  exact ⟨rfl, rfl, rfl⟩

theorem currentSegment_eq {s : State} {pl : Playback} {segs : List Segment} (playing : s.play = some pl)
    (loaded : s.pattern = some segs) :
    s.currentSegment = (segs[pl.segment]?).map fun seg => (pl, seg, segs.length) := by
  simp only [State.currentSegment, playing, loaded]
  cases segs[pl.segment]? <;> rfl

/-- Settles O35: the current segment, and whether it is over and the last. -/
theorem patternSegmentsAdvanceAndEnd : Obligations.PatternSegmentsAdvanceAndEnd := by
  unfold Obligations.PatternSegmentsAdvanceAndEnd
  refine ⟨fun s missing => playback_of_none ?_, fun s pl segs playing loaded => ⟨fun beyond => playback_of_none ?_,
    fun seg at_ => ?_⟩⟩
  · rw [State.currentSegment]
    rcases missing with stopped | unloaded
    · rw [stopped]
    · rw [unloaded]
      cases s.play <;> rfl
  · rw [currentSegment_eq playing loaded, List.getElem?_eq_none beyond]
    rfl
  · have current : s.currentSegment = some (pl, seg, segs.length) := by
      rw [currentSegment_eq playing loaded, at_]
      rfl
    rw [exec_patternSegmentAdvance, exec_patternDone, State.advanceSegment, State.endPattern, State.feedPattern, current]
    dsimp only
    refine ⟨fun over_ more => ?_, fun over_ last => ?_, fun goesOn => ?_, rfl⟩
    · rw [if_pos ⟨over_, more⟩, if_neg (by omega)]
      exact ⟨rfl, rfl⟩
    · rw [if_neg (by omega), if_pos (by omega)]
      exact ⟨rfl, rfl⟩
    · rw [if_neg (by omega), if_neg (by omega)]
      exact ⟨rfl, rfl⟩

end Sys2Proof.Machine

namespace Sys2Proof.Machine

/-! ## Routing -/

/-- The ports that receive a line's records (R144). -/
theorem mem_route (s : State) (n : LineId) (p : PortId) :
    p ∈ s.route n
      ↔ (((s.line n).lat.service = .test ∨ (s.line n).lat.owner = .none) ∧ p = .m)
          ∨ ((s.line n).lat.service ≠ .test ∧ (s.line n).lat.owner.port = some p)
          ∨ ((s.line n).lat.service ≠ .test ∧ (s.line n).lat.owner ≠ .none ∧ s.watched = some n ∧ p = .m) := by
  have owned (notTest : (s.line n).lat.service ≠ .test) :
      s.route n = match (s.line n).lat.owner.port with
        | some q => if s.watched = some n then [q, .m] else [q]
        | none => [.m] := by
    unfold State.route
    cases service : (s.line n).lat.service <;> simp_all <;> rfl
  by_cases test : (s.line n).lat.service = .test
  · have toM : s.route n = [.m] := by simp [State.route, test]
    simp [toM, test]
  · rw [owned test]
    by_cases watched : s.watched = some n
    · cases owner : (s.line n).lat.owner <;> simp [test, watched, Owner.port, eq_comm]
    · cases owner : (s.line n).lat.owner <;> simp [test, watched, Owner.port, eq_comm]

theorem attention_iff (q : Port) : q.attention = true ↔ q.queue ≠ [] ∨ 0 < q.lost := by
  simp [Port.attention]

/-- The attention output depends on the queue and the lost count alone (R168). -/
theorem attention_congr {q q' : Port} (queue : q'.queue = q.queue) (lost : q'.lost = q.lost) : q'.attention = q.attention := by
  rw [Port.attention, Port.attention, queue, lost]

/-- The response that stands on a port after a command is no part of its attention output. -/
theorem attention_answered (p q : PortId) (r : Request) (status : Status) (data : List Octet) (t : State) :
    ((answered p r status data t).port q).attention = (t.port q).attention := by
  rw [answered, port_updPort]
  split
  · next same => rw [same]; exact attention_congr rfl rfl
  · rfl

theorem attention_readEvents (s : State) (p q : PortId) (k : Nat) :
    (((s.updPort p fun x => { x with queue := x.queue.drop k, lost := 0 }).port q).attention = true)
      = if q = p then k < (s.port p).queue.length else (s.port q).attention = true := by
  rw [port_updPort]
  split
  · rw [attention_iff]
    simp
  · rfl

/-- Settles O36: the route is `mem_route`, a delivery `accept_spec`, the attention output `attention_iff`. -/
theorem recordsAreRoutedAndStoredOrCounted : Obligations.RecordsAreRoutedAndStoredOrCounted := by
  unfold Obligations.RecordsAreRoutedAndStoredOrCounted
  refine ⟨fun s k n q a b p e record => ?_, fun q e => ⟨fun room => if_pos room, fun full => if_neg (Nat.not_lt.mpr full),
    attention_iff q, accept_attention q e⟩, fun p t n s u after low high => ?_, fun s => ⟨_, exec_powerOnReset s, fun p => ?_⟩⟩
  · have made : e = s.event k n q a b := record
    rw [made, port_send, ← mem_route]
    exact ⟨fun on => if_pos on, fun off => if_neg off⟩
  · subst after
    have taken := (actReadEvents_value p 0x03 t n s.boundaryFirst).trans (if_pos ⟨low, high⟩)
    refine ⟨_, exec_readEvents p t [n] s, ?_⟩
    rw [takeRow_accepted _ _ _ _ _ _ _ _ taken]
    refine ⟨?_, fun other apart => ?_⟩
    · rw [attention_answered, attention_readEvents, if_pos rfl]
    · rw [attention_answered, Bool.eq_iff_iff, attention_readEvents, if_neg apart]
  · obtain ⟨queue, lost⟩ := (fresh_powerOn s).queues p
    simp [Port.attention, queue, lost]

/-! ## Offers -/

/-- Settles O37: the three outcomes of an offer. -/
theorem offersAreStoredOrRefused : Obligations.OffersAreStoredOrRefused := by
  unfold Obligations.OffersAreStoredOrRefused
  intro s n o
  refine ⟨fun full => if_pos full, fun room empty => ?_, fun r rest room free => ?_⟩
  · rw [State.offer, if_neg (Nat.not_le.mpr room), empty]
  · rw [State.offer, if_neg (Nat.not_le.mpr room), free]
    rfl

/-! ## The octets of an entry -/

theorem ofOctets_none {d : List Octet}
    (undefined : 2 < (d.getD 28 0).toNat ∨ 1 < (d.getD 45 0).toNat ∨ 1 < (d.getD 46 0).toNat) : Profile.ofOctets d = none := by
  unfold Profile.ofOctets
  rcases undefined with numbering | flash | reports
  · rw [numbering_undefined _ numbering]
  · rw [onOff_undefined _ flash]
    cases Numbering.ofOctet (d.getD 28 0) <;> rfl
  · rw [onOff_undefined _ reports]
    cases Numbering.ofOctet (d.getD 28 0) <;> cases onOffOfOctet (d.getD 45 0) <;> rfl

theorem ordered_iff (e : Profile) :
    e.ordered = true ↔ e.breakThreshold < e.makeThreshold ∧ e.breakMin < e.breakMax ∧ e.breakMax < e.flashMin
      ∧ e.flashMin ≤ e.flashMax ∧ e.ratioLow < e.ratioHigh := by
  simp [Profile.ordered, and_assoc]

/-! ## The octets of a plan node -/

/-- Pairs of octets, read branch by branch (R90). -/
theorem branchesOfOctets_spec (count : Nat) (d : List Octet) (branch : Nat → Option Branch) (size : d.length = 2 * count)
    (spelled : ∀ k < count, branch k = Branch.ofOctets (d.getD (2 * k) 0) (d.getD (2 * k + 1) 0)) :
    ((∃ k < count, branch k = none) → branchesOfOctets d = none)
      ∧ ∀ b : Nat → Branch, (∀ k < count, branch k = some (b k)) → branchesOfOctets d = some ((List.range count).map b) := by
  induction count generalizing d branch with
  | zero =>
    obtain rfl : d = [] := List.length_eq_zero_iff.mp size
    exact ⟨fun ⟨k, hk, _⟩ => absurd hk (Nat.not_lt_zero k), fun _ _ => rfl⟩
  | succ count ih =>
    match d, size with
    | kind :: target :: rest, size =>
      obtain ⟨bad, good⟩ := ih rest (fun k => branch (k + 1)) (by simp only [List.length_cons] at size; omega)
        fun k below => spelled (k + 1) (Nat.succ_lt_succ below)
      have first : branch 0 = Branch.ofOctets kind target := spelled 0 (Nat.succ_pos _)
      rw [branchesOfOctets_cons, ← first]
      constructor
      · rintro ⟨k, below, refused⟩
        match k with
        | 0 => rw [refused]; rfl
        | k + 1 =>
          rw [bad ⟨k, Nat.lt_of_succ_lt_succ below, refused⟩]
          cases branch 0 <;> rfl
      · intro b all
        rw [all 0 (Nat.succ_pos _), good (fun k => b (k + 1)) fun k below => all (k + 1) (Nat.succ_lt_succ below),
          List.range_succ_eq_map, List.map_cons, List.map_map]
        rfl

/-- A branch read from a kind code that allows it and a target (R90). -/
theorem branch_of_codes {kind target : Octet} {b : Branch}
    (codes : (∃ m : Fin 64, kind.toNat = 0 ∧ target.toNat = m.val ∧ b = .cont m) ∨ (kind.toNat = 1 ∧ b = .complete)
      ∨ (∃ m : Fin 64, kind.toNat = 2 ∧ target.toNat = m.val ∧ b = .hold m) ∨ (kind.toNat = 3 ∧ b = .reject)) :
    Branch.ofOctets kind target = some b := by
  unfold Branch.ofOctets
  rcases codes with ⟨m, code, at_, rfl⟩ | ⟨code, rfl⟩ | ⟨m, code, at_, rfl⟩ | ⟨code, rfl⟩
  · simp [code, at_]
  · simp [code]
  · simp [code, at_]
  · simp [code]

/-- A plan node from its ten branches (R90). -/
theorem planNode_of_branches {d : List Octet} {node : PlanNode} {b : Nat → Branch}
    (branches : branchesOfOctets d = some ((List.range 10).map b)) (each : ∀ k : Fin 10, b k.val = node[k]) :
    planNodeOfOctets d = some node := by
  have whole : (Vector.ofFn fun i : Fin 10 => ((List.range 10).map b).getD i.val .reject) = node := by
    ext i hi
    simpa [hi] using each ⟨i, hi⟩
  rw [planNodeOfOctets, branches]
  exact (if_pos (by simp)).trans (congrArg some whole)

theorem planNode_none {d : List Octet} (refused : branchesOfOctets d = none) : planNodeOfOctets d = none := by
  rw [planNodeOfOctets, refused]

/-! ## WRITE_PROFILE and WRITE_PLAN -/

section
variable (p : PortId) (t : Octet) (d : List Octet) (s : State)

theorem exec_writeProfile : exec (.writeProfile p t d) s = .next (takeRow actWriteProfile p 0x10 t d s) := rfl

theorem exec_writePlan : exec (.writePlan p t d) s = .next (takeRow actWritePlan p 0x11 t d s) := rfl

/-- Data of at most 80 octets are all kept (R159). -/
theorem request_data {c : Octet} {d : List Octet} (small : d.length ≤ 80) : (request c t d).data = d :=
  List.take_of_length_le small

variable {d}

theorem actWriteProfile_entry {c : Octet} {i : Fin 8} (size : d.length = 47) :
    actWriteProfile p (request c (BitVec.ofNat 8 i.val) d) s
      = match Profile.ofOctets d with
        | none => (⟨.range, s.profiles[i].octets⟩, s)
        | some e =>
          if e.ordered then accept e.octets { s with profiles := s.profiles.set i e }
          else (⟨.range, s.profiles[i].octets⟩, s) := by
  have target : entryOfOctet (request c (BitVec.ofNat 8 i.val) d).target = some i := entryOfOctet_entry i
  rw [actWriteProfile, withLength_ok _ _ _ _ size, target, request_data _ (by omega)] <;> rfl

theorem actWriteProfile_outside {c : Octet} (size : d.length = 47) (outside : 8 ≤ t.toNat) :
    actWriteProfile p (request c t d) s = refuse .range s := by
  have target : entryOfOctet (request c t d).target = none := entryOfOctet_outside t outside
  rw [actWriteProfile, withLength_ok _ _ _ _ size, target]

theorem actWritePlan_node {c : Octet} {i : Fin 64} (size : d.length = 20) :
    actWritePlan p (request c (BitVec.ofNat 8 i.val) d) s
      = match planNodeOfOctets d with
        | none => (⟨.range, planNodeOctets s.plan[i]⟩, s)
        | some node => accept (planNodeOctets node) { s with plan := s.plan.set i node } := by
  have target : nodeOfOctet (request c (BitVec.ofNat 8 i.val) d).target = some i := nodeOfOctet_node i
  rw [actWritePlan, withLength_ok _ _ _ _ size, target, request_data _ (by omega)] <;> rfl

theorem actWritePlan_outside {c : Octet} (size : d.length = 20) (outside : 64 ≤ t.toNat) :
    actWritePlan p (request c t d) s = refuse .range s := by
  have target : nodeOfOctet (request c t d).target = none := nodeOfOctet_outside t outside
  rw [actWritePlan, withLength_ok _ _ _ _ size, target]

end

/-- Settles O16: what the octets give, and the outcomes of the two commands by it. -/
theorem writesStoreOrReturnWhatStands : Obligations.WritesStoreOrReturnWhatStands := by
  unfold Obligations.WritesStoreOrReturnWhatStands
  refine ⟨?entry, ordered_iff, ?node, ?writeProfile, ?writePlan⟩
  case entry =>
    intro d value _ spelled
    refine ⟨ofOctets_none, fun numbering code flash reports => ?_⟩
    have word (k : Nat) : word16At d k = value k := (spelled k).symm
    simp only [Profile.ofOctets, numbering_of_code _ _ code, onOff_of_le _ flash, onOff_of_le _ reports, clamp, word]
  case node =>
    intro d kind target size spelled
    let branch (k : Nat) : Option Branch := Branch.ofOctets (d.getD (2 * k) 0) (d.getD (2 * k + 1) 0)
    obtain ⟨bad, good⟩ := branchesOfOctets_spec 10 d branch (by omega) fun _ _ => rfl
    refine ⟨fun ⟨k, refused⟩ => planNode_none (bad ⟨k.val, k.isLt, branch_refused _ _ ?_⟩), fun node codes => ?_⟩
    · rwa [(spelled k).1, (spelled k).2] at refused
    · refine planNode_of_branches (b := fun k => if h : k < 10 then node[k] else .reject) (good _ fun k below => ?_)
        fun k => dif_pos k.isLt
      have code := codes ⟨k, below⟩
      rw [(spelled ⟨k, below⟩).1, (spelled ⟨k, below⟩).2] at code
      rw [dif_pos below]
      exact branch_of_codes code
  case writeProfile =>
    rintro p t d s u rfl size
    refine ⟨fun i e target read ordered => ?_, fun i e target read disorder => ?_, fun i target unread => ?_,
      fun outside => ?_⟩
    · subst target
      rw [exec_writeProfile, takeRow_accepted]
      rw [actWriteProfile_entry p _ size, read]
      exact if_pos ordered
    · subst target
      rw [exec_writeProfile, takeRow_eq_answered _ _ _ _ _ _ ⟨.range, s.boundaryFirst.profiles[i].octets⟩ s.boundaryFirst]
      rw [actWriteProfile_entry p _ size, read]
      exact if_neg (by simp [disorder])
    · subst target
      rw [exec_writeProfile, takeRow_eq_answered _ _ _ _ _ _ ⟨.range, s.boundaryFirst.profiles[i].octets⟩ s.boundaryFirst]
      rw [actWriteProfile_entry p _ size, unread]
    · rw [exec_writeProfile, takeRow_refused _ _ _ _ _ _ _ (actWriteProfile_outside p t _ size outside)]
  case writePlan =>
    rintro p t d s u rfl size
    refine ⟨fun i node target read => ?_, fun i target unread => ?_, fun outside => ?_⟩
    · subst target
      rw [exec_writePlan, takeRow_accepted]
      rw [actWritePlan_node p _ size, read]
    · subst target
      rw [exec_writePlan, takeRow_eq_answered _ _ _ _ _ _ ⟨.range, planNodeOctets s.boundaryFirst.plan[i]⟩ s.boundaryFirst]
      rw [actWritePlan_node p _ size, unread]
    · rw [exec_writePlan, takeRow_refused _ _ _ _ _ _ _ (actWritePlan_outside p t _ size outside)]

/-! ## The octets of the tables, written and read -/

/-- A field of an entry within its range, read back from two octets (R59, R176). -/
theorem field_read {l : List Octet} {n : Nat} (i lo hi : Nat) (inRange : within lo hi n = true)
    (high : l.getD i 0 = octet (n / 256)) (low : l.getD (i + 1) 0 = octet n) (small : hi < 65536) :
    clamp lo hi (word16At l i) = n := by
  obtain ⟨atLeast, atMost⟩ := (within_iff _ _ _).mp inRange
  exact clamp_word16At l n i lo hi high low atLeast atMost small

/-- The 47 octets of an entry, one by one (R176). -/
theorem profile_octets (e : Profile) :
    e.octets
      = [octet (e.makeThreshold / 256), octet e.makeThreshold, octet (e.breakThreshold / 256),
          octet e.breakThreshold, octet (e.settleCount / 256), octet e.settleCount, octet (e.seizeTime / 256),
          octet e.seizeTime, octet (e.breakMin / 256), octet e.breakMin, octet (e.breakMax / 256), octet e.breakMax,
          octet (e.makeMin / 256), octet e.makeMin, octet (e.flashMin / 256), octet e.flashMin,
          octet (e.flashMax / 256), octet e.flashMax, octet (e.periodInitial / 256), octet e.periodInitial,
          octet (e.interdigitFactor / 256), octet e.interdigitFactor, octet (e.interdigitMin / 256),
          octet e.interdigitMin, octet (e.ratioLow / 256), octet e.ratioLow, octet (e.ratioHigh / 256),
          octet e.ratioHigh, octet e.numbering.code, octet (e.queueLimit / 256), octet e.queueLimit,
          octet (e.planRoot / 256), octet e.planRoot, octet (e.autoProceed / 256), octet e.autoProceed,
          octet (e.endTimeout / 256), octet e.endTimeout, octet (e.toneOn / 256), octet e.toneOn,
          octet (e.toneOff / 256), octet e.toneOff, octet (e.levelLow / 256), octet e.levelLow,
          octet (e.levelHigh / 256), octet e.levelHigh, flagOctet e.flashTone, flagOctet e.digitReports] := by
  unfold Profile.octets be16
  simp only [List.cons_append, List.nil_append]

/-- A valid entry is read back from its octets (R176). -/
theorem ofOctets_octets (e : Profile) (valid : e.valid = true) : Profile.ofOctets e.octets = some e := by
  simp only [Profile.valid, Bool.and_eq_true, and_assoc] at valid
  obtain ⟨w0, w1, w2, w3, w4, w5, w6, w7, w8, w9, w10, w11, w12, w13, w14, w15, w16, w17, w18, w19, w20, w21, _⟩ := valid
  rw [profile_octets]
  unfold Profile.ofOctets
  simp only [List.getD_cons_succ, List.getD_cons_zero, numbering_code, onOff_code]
  rw [field_read 0 1 255 w0 rfl rfl (by decide), field_read 2 0 254 w1 rfl rfl (by decide),
    field_read 4 1 8 w2 rfl rfl (by decide), field_read 6 10 500 w3 rfl rfl (by decide),
    field_read 8 10 80 w4 rfl rfl (by decide), field_read 10 40 200 w5 rfl rfl (by decide),
    field_read 12 5 60 w6 rfl rfl (by decide), field_read 14 100 1500 w7 rfl rfl (by decide),
    field_read 16 200 2000 w8 rfl rfl (by decide), field_read 18 60 160 w9 rfl rfl (by decide),
    field_read 20 6 24 w10 rfl rfl (by decide), field_read 22 100 1000 w11 rfl rfl (by decide),
    field_read 24 30 70 w12 rfl rfl (by decide), field_read 26 55 90 w13 rfl rfl (by decide),
    field_read 29 1 32 w14 rfl rfl (by decide), field_read 31 0 63 w15 rfl rfl (by decide),
    field_read 33 0 10000 w16 rfl rfl (by decide), field_read 35 1000 30000 w17 rfl rfl (by decide),
    field_read 37 40 200 w18 rfl rfl (by decide), field_read 39 40 500 w19 rfl rfl (by decide),
    field_read 41 0 32767 w20 rfl rfl (by decide), field_read 43 0 32767 w21 rfl rfl (by decide)]

/-- A branch is read back from its two octets (R176). -/
theorem branch_octets (b : Branch) :
    ∃ kind target, b.octets = [kind, target] ∧ Branch.ofOctets kind target = some b := by
  have target (m : Fin 64) : (octet m.val).toNat = m.val := toNat_octet _ (by omega)
  cases b with
  | cont m => exact ⟨_, _, rfl, branch_of_codes (.inl ⟨m, rfl, target m, rfl⟩)⟩
  | complete => exact ⟨_, _, rfl, branch_of_codes (.inr (.inl ⟨rfl, rfl⟩))⟩
  | hold m => exact ⟨_, _, rfl, branch_of_codes (.inr (.inr (.inl ⟨m, rfl, target m, rfl⟩)))⟩
  | reject => exact ⟨_, _, rfl, branch_of_codes (.inr (.inr (.inr ⟨rfl, rfl⟩)))⟩

theorem branchesOfOctets_octets (bs : List Branch) :
    (bs.flatMap Branch.octets).length = 2 * bs.length ∧ branchesOfOctets (bs.flatMap Branch.octets) = some bs := by
  induction bs with
  | nil => exact ⟨rfl, rfl⟩
  | cons b rest ih =>
    obtain ⟨kind, target, octets, read⟩ := branch_octets b
    obtain ⟨length, others⟩ := ih
    rw [List.flatMap_cons, octets]
    refine ⟨?_, ?_⟩
    · simp only [List.cons_append, List.nil_append, List.length_cons, length]
      omega
    · show branchesOfOctets (kind :: target :: rest.flatMap Branch.octets) = _
      rw [branchesOfOctets_cons, read, others]
      rfl

/-- Settles O17: `ofOctets_octets` and `branchesOfOctets_octets`. -/
theorem configurationOctetsRoundTrip : Obligations.ConfigurationOctetsRoundTrip := by
  unfold Obligations.ConfigurationOctetsRoundTrip
  refine ⟨fun e valid => ⟨by rw [profile_octets]; rfl, ofOctets_octets e valid⟩, fun node => ?_⟩
  obtain ⟨length, read⟩ := branchesOfOctets_octets node.toList
  have ten : node.toList.length = 10 := node.size_toArray
  have whole : (Vector.ofFn fun i : Fin 10 => node.toList.getD i.val .reject) = node := by
    ext i hi
    simp
  refine ⟨by rw [planNodeOctets, length, ten], ?_⟩
  rw [planNodeOfOctets, planNodeOctets, read]
  simp only [ten, if_true, whole]

end Sys2Proof.Machine

namespace Sys2Proof.Machine

/-! ## The loop state handed to the decoder -/

section
variable {s : State} {n : LineId}

/-- A line OUT_OF_SERVICE is left (R12, R17). -/
theorem hand_of_out (out : (s.line n).lat.service = .outOfService) :
    s.hand n = s.updLine n fun x => { x with due := .nothing } := by
  rw [State.hand]
  exact if_pos out

variable (inUse : (s.line n).lat.service ≠ .outOfService)
include inUse

theorem hand_loopOpen (state : (s.line n).pd.state = .loopOpen) :
    s.hand n
      = match (s.line n).ls.loop with
        | .closed => s.updLine n fun x => { x with pd := { x.pd with state := .seizePending, seizeTimer := 0 }, due := .nothing }
        | .opened => s.updLine n fun x => { x with due := .nothing } := by
  simp only [State.hand, if_neg inUse, state, State.seizePending, updPd_eq, setDue_eq, updLine_updLine] <;>
    cases (s.line n).ls.loop <;> rfl

theorem hand_seizePending (state : (s.line n).pd.state = .seizePending) :
    s.hand n
      = match (s.line n).ls.loop with
        | .closed =>
          s.updLine n fun x => { x with pd := { x.pd with seizeTimer := min 65535 (x.pd.seizeTimer + 1) }, due := .limits }
        | .opened =>
          (s.watchEntry n .make (min 65535 ((s.line n).pd.seizeTimer + 1)) .glitch).updLine n fun x =>
            { x with
              pd := { x.pd with state := .loopOpen, seizeTimer := min 65535 (x.pd.seizeTimer + 1) }, due := .nothing } := by
  simp only [State.hand, if_neg inUse, state, State.seizeAbort, updPd_eq, setDue_eq, updLine_updLine, line_updLine_self,
    watchEntry_updLine]
  cases (s.line n).ls.loop <;> rfl

theorem hand_make (state : (s.line n).pd.state = .make) :
    s.hand n
      = match (s.line n).ls.loop with
        | .closed =>
          s.updLine n fun x => { x with pd := { x.pd with makeTimer := min 65535 (x.pd.makeTimer + 1) }, due := .limits }
        | .opened =>
          s.updLine n fun x =>
            { x with
              pd := { x.pd with
                state := .brk, makeTimer := min 65535 (x.pd.makeTimer + 1)
                mPrev := min 65535 (x.pd.makeTimer + 1), breakTimer := 0
                flags := if x.pd.inDigit then x.pd.flags else {} }
              due := .nothing } := by
  simp only [State.hand, if_neg inUse, state, State.breakStart, updPd_eq, setDue_eq, updLine_updLine]
  cases (s.line n).ls.loop <;> rfl

/-- In BREAK the release limit comes first (R17, R24). -/
theorem hand_brk (state : (s.line n).pd.state = .brk) :
    s.hand n
      = if (s.snapshot n).flashMax + 1 ≤ min 65535 ((s.line n).pd.breakTimer + 1) then
          s.updLine n fun x => { x with pd := { x.pd with breakTimer := min 65535 (x.pd.breakTimer + 1) }, due := .release }
        else
          match (s.line n).ls.loop with
          | .closed =>
            s.updLine n fun x =>
              { x with
                pd := { x.pd with
                  state := .makePending, breakTimer := min 65535 (x.pd.breakTimer + 1)
                  b := min 65535 (x.pd.breakTimer + 1), makeTimer := 0 }
                due := .nothing }
          | .opened =>
            s.updLine n fun x =>
              { x with pd := { x.pd with breakTimer := min 65535 (x.pd.breakTimer + 1) }, due := .nothing } := by
  simp only [State.hand, if_neg inUse, state, State.makePendingStart, State.releaseReached, State.snapshot, updPd_eq, setDue_eq,
    updLine_updLine, line_updLine_self, decide_eq_true_eq]
  refine ite_congr rfl (fun _ => rfl) fun _ => ?_
  cases (s.line n).ls.loop <;> rfl

theorem hand_makePending (state : (s.line n).pd.state = .makePending) :
    s.hand n
      = match (s.line n).ls.loop with
        | .closed =>
          s.updLine n fun x => { x with pd := { x.pd with makeTimer := min 65535 (x.pd.makeTimer + 1) }, due := .limits }
        | .opened =>
          if min 65535 ((s.line n).pd.makeTimer + 1) ≤ (s.snapshot n).makeMin then
            (s.watchEntry n .make (min 65535 ((s.line n).pd.makeTimer + 1)) .glitch).updLine n fun x =>
              { x with
                pd := { x.pd with
                  state := .brk, makeTimer := min 65535 (x.pd.makeTimer + 1)
                  breakTimer := min 65535 (x.pd.b + min 65535 (x.pd.makeTimer + 1))
                  flags := { x.pd.flags with bounce := true } }
                mu := { x.mu with stats := { x.mu.stats with glitches := min 65535 (x.mu.stats.glitches + 1) } }
                due :=
                  if (s.snapshot n).flashMax + 1 ≤ min 65535 ((s.line n).pd.b + min 65535 ((s.line n).pd.makeTimer + 1)) then
                    .release
                  else .nothing }
          else
            s.updLine n fun x => { x with pd := { x.pd with makeTimer := min 65535 (x.pd.makeTimer + 1) }, due := .nothing } := by
  simp only [State.hand, if_neg inUse, state, State.glitchMake, State.releaseReached, State.snapshot, count_eq_updLine,
    updPd_eq, setDue_eq, updLine_updLine, line_updLine_self, watchEntry_updLine, line_watchEntry, decide_eq_true_eq]
  cases (s.line n).ls.loop <;> rfl

end

/-- Settles O41: the five decoder states, each by the loop state handed. -/
theorem handedLoopMovesTheDecoder : Obligations.HandedLoopMovesTheDecoder := by
  unfold Obligations.HandedLoopMovesTheDecoder
  rintro n s l e rfl rfl
  refine ⟨hand_of_out, fun inUse => ⟨fun state loop => ?_, fun state loop => ?_, fun state loop => ?_, fun state loop => ?_,
    fun state loop => ?_, fun state loop => ?_, fun state reached => ?_, fun state before loop => ?_,
    fun state before loop => ?_, fun state loop => ?_, fun state loop glitch => ?_⟩⟩
  · rw [hand_loopOpen inUse state, loop]
  · rw [hand_loopOpen inUse state, loop]
  · rw [hand_seizePending inUse state, loop]
  · rw [hand_seizePending inUse state, loop]
  · rw [hand_make inUse state, loop]
  · rw [hand_make inUse state, loop]
  · rw [hand_brk inUse state, if_pos reached]
  · rw [hand_brk inUse state, if_neg (Nat.not_le.mpr before), loop]
  · rw [hand_brk inUse state, if_neg (Nat.not_le.mpr before), loop]
  · rw [hand_makePending inUse state, loop]
  · rw [hand_makePending inUse state, loop]
    exact if_pos glitch

/-! ## The settle filter -/

/-- What is handed to the decoder leaves the sampler's part of the line (R12). -/
theorem ls_hand (s : State) (n : LineId) : ((s.hand n).line n).ls = (s.line n).ls := by
  by_cases out : (s.line n).lat.service = .outOfService
  · rw [hand_of_out out, line_updLine_self]
  cases state : (s.line n).pd.state with
  | loopOpen =>
    rw [hand_loopOpen out state]
    split <;> rw [line_updLine_self]
  | seizePending =>
    rw [hand_seizePending out state]
    split <;> simp
  | make =>
    rw [hand_make out state]
    split <;> rw [line_updLine_self]
  | brk =>
    rw [hand_brk out state]
    split
    · rw [line_updLine_self]
    · split <;> rw [line_updLine_self]
  | makePending =>
    rw [hand_makePending out state]
    split
    · rw [line_updLine_self]
    · split <;> simp

section
variable {s : State} {n : LineId} {sample : Loop} {settleCount : Nat}

theorem settle_same (same : sample = (s.line n).ls.loop) :
    s.settle n sample settleCount = (s.updLine n fun l => { l with ls := { l.ls with candidate := 0 } }).hand n :=
  if_pos same

theorem settle_reached (differs : sample ≠ (s.line n).ls.loop) (reached : settleCount ≤ (s.line n).ls.candidate + 1) :
    s.settle n sample settleCount
      = s.updLine n fun l => { l with ls := { l.ls with candidate := l.ls.candidate + 1 }, due := .change } := by
  rw [State.settle, if_neg differs]
  simp only [updLs_eq, setDue_eq, line_updLine_self, updLine_updLine, if_pos reached]

theorem settle_before (differs : sample ≠ (s.line n).ls.loop) (before : (s.line n).ls.candidate + 1 < settleCount) :
    s.settle n sample settleCount
      = (s.updLine n fun l => { l with ls := { l.ls with candidate := l.ls.candidate + 1 } }).hand n := by
  rw [State.settle, if_neg differs]
  simp only [updLs_eq, line_updLine_self, if_neg (Nat.not_le.mpr before)]

end

/-! ## DEBOUNCED_STATE_CHANGE -/

/-- Settles O40: the change where it is due, and the sample of a line in TEST. -/
theorem debouncedChangeFlipsTheLoop : Obligations.DebouncedChangeFlipsTheLoop := by
  unfold Obligations.DebouncedChangeFlipsTheLoop
  intro n s
  simp only [exec_debouncedStateChange]
  refine ⟨fun due => ?_, fun notDue => ?_, fun e test entry => ?_, fun notTest => if_neg notTest⟩
  · have flip (x : Loop) : x.flip = if x = .opened then .closed else .opened := by cases x <;> rfl
    rw [State.debouncedChange, if_pos due, updLs_eq]
    simp only [flip]
  · rw [State.debouncedChange, if_neg notDue]
  · have fields : (s.samplerParams n).settleCount = e.settleCount := by
      rw [entry, State.samplerParams, State.samplerEntry]
      cases (s.line n).npw.stage <;> rfl
    have level : (s.line n).mu.sample = if (s.line n).mu.testLevel = some .make then .closed else .opened := by
      unfold MuLine.sample
      cases (s.line n).mu.testLevel with
      | none => rfl
      | some level => cases level <;> rfl
    rw [State.sampleTestLine, if_pos test, fields, level]

/-! ## Missed frames -/

theorem exec_missedFrame (s : State) :
    exec .missedFrame s = .next (if s.scanRequested then s.takeMissedFrame else s) := rfl

theorem exec_goodFrame (f : Vector Octet 65) (s : State) :
    exec (.goodFrame f) s
      = .next (if s.scanRequested then (if f[0] = Config.scanMarker then s.takeGoodFrame f else s.takeMissedFrame) else s) := rfl

theorem exec_scanLoss (s : State) : exec .scanLoss s = .next s.scanLossReached := rfl

theorem line_takeMissedFrame (s : State) (n : LineId) : s.takeMissedFrame.line n = (s.line n).freeze := by
  simp [State.line, State.takeMissedFrame]

theorem freeze_of_scan {l : Line} {params : SamplerParams} (waits : l.due = .scan params) :
    l.freeze = { l with due := .nothing } := by
  rw [Line.freeze, waits]

theorem freeze_of_other {l : Line} (other : ∀ params, l.due ≠ .scan params) : l.freeze = l := by
  unfold Line.freeze
  split
  · next params waits => exact absurd waits (other params)
  · rfl

/-- Settles O39: a missed frame, its count, and the loss that the count brings. -/
theorem missedFramesAreCounted : Obligations.MissedFramesAreCounted := by
  unfold Obligations.MissedFramesAreCounted
  intro s f
  simp only [exec_missedFrame, exec_goodFrame, exec_scanLoss]
  refine ⟨fun outstanding => ⟨s.takeMissedFrame, by rw [if_pos outstanding], fun bad => ?_, rfl, fun n => ⟨fun other => ?_,
    fun params waits => ?_⟩⟩, fun none => ?_, fun eight clear => ?_, fun other => ?_, fun none => ?_,
    fun t u outstanding missed loss => ?_⟩
  · rw [if_pos outstanding, if_neg (show f[0] ≠ Config.scanMarker from bad)]
  · rw [line_takeMissedFrame, freeze_of_other other]
  · rw [line_takeMissedFrame, freeze_of_scan waits]
  · simp [none]
  · rw [State.scanLossReached, if_pos (show s.missCount = Config.scanLossMisses ∧ _ from ⟨eight, clear⟩)]
    rfl
  · rw [State.scanLossReached]
    exact congrArg _ (if_neg other)
  · simp [State.closeTick, none]
  · rw [if_pos outstanding] at missed
    obtain rfl := Host.Outcome.next.inj missed
    rw [State.closeTick, if_pos outstanding]
    exact Host.Outcome.next.inj loss

/-! ## Good frames -/

section
variable {s : State} {n : LineId} {f : Vector Octet 65} {params : SamplerParams}

theorem compareFault_same (s : State) (n : LineId) : s.compareFault n (s.line n).ls.faultKind = s := if_pos rfl

theorem compareFault_differs {kind : FaultKind} (differs : kind ≠ (s.line n).ls.faultKind) :
    s.compareFault n kind
      = (s.updLine n fun l =>
          { l with
            ls := { l.ls with faultKind := kind, faultLatch := l.ls.faultLatch || decide (kind ≠ .none) } }).send
          .lineFault n 0 kind.code (s.line n).ls.faultKind.code := by
  rw [State.compareFault]
  dsimp only
  rw [if_neg differs]
  simp only [updLs_eq, bne, beq_eq_decide, decide_not]

/-- What the comparison of the fault kinds leaves in its line (R7, R8). -/
theorem line_compareFault (s : State) (n : LineId) (kind : FaultKind) :
    (s.compareFault n kind).line n
      = { s.line n with
          ls := { (s.line n).ls with
            faultKind := kind
            faultLatch := (s.line n).ls.faultLatch || decide (kind ≠ .none ∧ kind ≠ (s.line n).ls.faultKind) } } := by
  by_cases same : kind = (s.line n).ls.faultKind
  · subst same
    rw [compareFault_same]
    simp
  · rw [compareFault_differs same, line_send, line_updLine_self]
    simp [same]

theorem scanLine_eq (waits : (s.line n).due = .scan params) :
    s.scanLine f n
      = let v := s.compareFault n (FaultKind.ofOctet (frameStatus f n))
        if (v.line n).ls.faultKind = .none then
          v.settle n (classifyCode params (frameCode f n) (v.line n).ls.loop) params.settleCount
        else v.setDue n .nothing := by
  rw [State.scanLine, waits]

theorem scanLine_other (other : ∀ params, (s.line n).due ≠ .scan params) : s.scanLine f n = s := by
  unfold State.scanLine
  split
  · next params waits => exact absurd waits (other params)
  · rfl

theorem faultKind_ofOctet (o : Octet) :
    FaultKind.ofOctet o = if o.toNat = 0 then .none else if o.toNat = 1 then .foreignVoltage
      else if o.toNat = 2 then .groundFault else .notFitted := by
  unfold FaultKind.ofOctet
  split <;> simp_all

end

/-- A scan of several lines, each once: it works on their contexts, the watch ring and the ports, and each line sees its own
context as it was (R1). -/
theorem foldl_scanLine (f : Vector Octet 65) (ns : List LineId) (s : State) (once : ns.Nodup) :
    (ns.foldl (fun a n => a.scanLine f n) s
        = { s with
            lines := (ns.foldl (fun a n => a.scanLine f n) s).lines, ring := (ns.foldl (fun a n => a.scanLine f n) s).ring
            portA := (ns.foldl (fun a n => a.scanLine f n) s).portA
            portB := (ns.foldl (fun a n => a.scanLine f n) s).portB
            portM := (ns.foldl (fun a n => a.scanLine f n) s).portM })
      ∧ (∀ n, n ∉ ns → (ns.foldl (fun a n => a.scanLine f n) s).line n = s.line n)
      ∧ ∀ n ∈ ns, ∃ y : State, y.line n = s.line n ∧ (ns.foldl (fun a n => a.scanLine f n) s).line n = (y.scanLine f n).line n := by
  induction ns generalizing s with
  | nil => exact ⟨rfl, fun _ _ => rfl, fun _ h => absurd h (by simp)⟩
  | cons m rest ih =>
    obtain ⟨fresh, once⟩ := List.nodup_cons.mp once
    obtain ⟨frame, others, each⟩ := ih (s.scanLine f m) once
    obtain ⟨frame', others'⟩ := OnlyLine.scanLine m s f
    refine ⟨?_, fun n out => ?_, fun n isIn => ?_⟩
    · rw [List.foldl_cons, frame, frame']
    · obtain ⟨apart, out⟩ : n ≠ m ∧ n ∉ rest := by simpa using out
      rw [List.foldl_cons, others n out, others' n apart]
    · rw [List.foldl_cons]
      rcases List.mem_cons.mp isIn with rfl | later
      · exact ⟨s, rfl, others n fresh⟩
      · obtain ⟨y, before, after⟩ := each n later
        refine ⟨y, before.trans (others' n ?_), after⟩
        rintro rfl
        exact fresh later

/-- What a good frame does to a line that waits for it (R7 to R12). -/
theorem line_scanLine {y : State} {n : LineId} {f : Vector Octet 65} {params : SamplerParams} {kind : FaultKind}
    {sample : Loop} (waits : (y.line n).due = .scan params) (kind_eq : FaultKind.ofOctet (frameStatus f n) = kind)
    (sample_eq : classifyCode params (frameCode f n) (y.line n).ls.loop = sample) :
    ((y.scanLine f n).line n).ls.faultKind = kind
      ∧ ((y.scanLine f n).line n).ls.faultLatch
          = ((y.line n).ls.faultLatch || decide (kind ≠ .none ∧ kind ≠ (y.line n).ls.faultKind))
      ∧ ((y.scanLine f n).line n).ls.loop = (y.line n).ls.loop
      ∧ (kind ≠ .none →
          ((y.scanLine f n).line n).ls.candidate = (y.line n).ls.candidate ∧ ((y.scanLine f n).line n).pd = (y.line n).pd
            ∧ ((y.scanLine f n).line n).due = .nothing)
      ∧ (kind = .none → sample = (y.line n).ls.loop → ((y.scanLine f n).line n).ls.candidate = 0)
      ∧ (kind = .none → sample ≠ (y.line n).ls.loop →
          ((y.scanLine f n).line n).ls.candidate = (y.line n).ls.candidate + 1
            ∧ (params.settleCount ≤ (y.line n).ls.candidate + 1 →
              ((y.scanLine f n).line n).due = .change ∧ ((y.scanLine f n).line n).pd = (y.line n).pd)) := by
  have line := line_compareFault y n kind
  have kind_now : ((y.compareFault n kind).line n).ls.faultKind = kind := by rw [line]
  have loop_now : ((y.compareFault n kind).line n).ls.loop = (y.line n).ls.loop := by rw [line]
  rw [scanLine_eq waits, kind_eq]
  dsimp only
  rw [kind_now, loop_now, sample_eq]
  by_cases clear : kind = .none
  · rw [if_pos clear]
    by_cases same : sample = (y.line n).ls.loop
    · rw [settle_same (same.trans loop_now.symm), ls_hand, line_updLine_self, line]
      exact ⟨rfl, rfl, rfl, fun fault => absurd clear fault, fun _ _ => rfl, fun _ differs => absurd same differs⟩
    · have differs : sample ≠ ((y.compareFault n kind).line n).ls.loop := loop_now.symm ▸ same
      have candidate_now : ((y.compareFault n kind).line n).ls.candidate = (y.line n).ls.candidate := by rw [line]
      by_cases reached : params.settleCount ≤ (y.line n).ls.candidate + 1
      · rw [settle_reached differs (candidate_now.symm ▸ reached), line_updLine_self, line]
        exact ⟨rfl, rfl, rfl, fun fault => absurd clear fault, fun _ alike => absurd alike same,
          fun _ _ => ⟨rfl, fun _ => ⟨rfl, rfl⟩⟩⟩
      · rw [settle_before differs (by rw [candidate_now]; omega), ls_hand, line_updLine_self, line]
        exact ⟨rfl, rfl, rfl, fun fault => absurd clear fault, fun _ alike => absurd alike same,
          fun _ _ => ⟨rfl, fun yes => absurd yes reached⟩⟩
  · rw [if_neg clear, setDue_eq, line_updLine_self, line]
    exact ⟨rfl, rfl, rfl, fun _ => ⟨rfl, rfl, rfl⟩, fun none => absurd none clear, fun none => absurd none clear⟩

/-- The end of a run of missed frames, when its frame has been answered (R5). -/
theorem endMissedRun_eq {s : State} {restored : Port → Port}
    (restores : ∀ q : Port, restored q
      = if s.scanLoss then q.accept ⟨.scanRestored, 255, 0, 0, octet s.missCount, 0, s.timestamp⟩ else q) :
    ({ s with scanRequested := false } : State).endMissedRun
      = { s with
          missCount := 0, scanLoss := false, scanRequested := false
          portA := restored s.portA, portB := restored s.portB, portM := restored s.portM } := by
  unfold State.endMissedRun
  simp only [restores]
  cases lost : s.scanLoss
  · simp
  · rfl

/-- Settles O38: the frame is taken in by `foldl_scanLine`, line by line as `line_scanLine` says. -/
theorem goodFrameIsTakenInWhole : Obligations.GoodFrameIsTakenInWhole := by
  unfold Obligations.GoodFrameIsTakenInWhole
  refine ⟨?frame, fun s n kind old was => ?compare, ?scan, fun s n f other => scanLine_other other, faultKind_ofOctet,
    fun _ _ _ => rfl, fun s n sample settleCount => ⟨settle_same, settle_reached, settle_before⟩⟩
  case frame =>
    intro f s w restored outstanding marker restores w_eq
    have taken : exec (.goodFrame f) s = .next (allLines.foldl (fun a n => a.scanLine f n) w) := by
      rw [exec_goodFrame, if_pos outstanding, if_pos (show f[0] = Config.scanMarker from marker), State.takeGoodFrame,
        endMissedRun_eq restores, w_eq]
    obtain ⟨frame, _, each⟩ := foldl_scanLine f allLines w (List.nodup_finRange 32)
    have line_w (n : LineId) : w.line n = s.line n := by rw [w_eq]; rfl
    refine ⟨_, taken, rfl, ?_, fun n other => ?_, fun n params code status kind sample waits code_eq status_eq kind_eq sample_eq => ?_⟩
    · rw [frame, w_eq]
    · obtain ⟨y, before, after⟩ := each n (List.mem_finRange n)
      rw [after, scanLine_other, before, line_w]
      intro params
      rw [before, line_w]
      exact other params
    · obtain ⟨y, before, after⟩ := each n (List.mem_finRange n)
      rw [line_w] at before
      subst code_eq status_eq
      rw [after, ← before]
      refine line_scanLine (before ▸ waits) ((faultKind_ofOctet _).trans kind_eq.symm) ?_
      rw [before]
      exact sample_eq.symm
  case compare =>
    subst was
    exact ⟨fun same => by rw [same, compareFault_same], compareFault_differs⟩
  case scan =>
    rintro s n f params v waits rfl
    refine ⟨fun clear => ?_, fun fault => ?_⟩
    · rw [scanLine_eq waits]
      exact if_pos clear
    · rw [scanLine_eq waits]
      exact if_neg fault

end Sys2Proof.Machine

namespace Sys2Proof.Machine

/-! ## SEIZURE -/

theorem exec_seizure (n : LineId) (s : State) : exec (.seizure n) s = .next (s.boundaryFirst.seizure n) := rfl

/-- Settles O42: `seize_eq`, with the tick's work taken off the line. -/
theorem seizureBeginsTheCall : Obligations.SeizureBeginsTheCall := by
  unfold Obligations.SeizureBeginsTheCall
  rintro n s u l e rfl rfl rfl
  refine ⟨fun due state reached => ?_, fun notDue => ?_⟩
  · rw [exec_seizure, State.seizure, if_pos ⟨due, state, reached⟩, seize_eq]
    simp only [setDue_eq, line_updLine_self, updLine_updLine, State.liveEntry, profiles_updLine]
    rfl
  · rw [exec_seizure, State.seizure]
    exact congrArg _ (if_neg notDue)

/-! ## MAKE_CONFIRMED of the other breaks -/

section
variable {e : Profile} {b : Nat}

theorem classifyBreak_glitch (below : b < e.breakMin) : classifyBreak e b = .glitch := if_pos below

theorem classifyBreak_breakError (atLeast : e.breakMin ≤ b) (above : e.breakMax < b) (below : b < e.flashMin) :
    classifyBreak e b = .breakError := by
  rw [classifyBreak, if_neg (Nat.not_lt.mpr atLeast), if_neg (Nat.not_le.mpr above), if_pos below]

theorem classifyBreak_flash (atLeast : e.breakMin ≤ b) (above : e.breakMax < b) (flash : e.flashMin ≤ b) :
    classifyBreak e b = .flash := by
  rw [classifyBreak, if_neg (Nat.not_lt.mpr atLeast), if_neg (Nat.not_le.mpr above), if_neg (Nat.not_lt.mpr flash)]

end

section
variable (s : State) (n : LineId)

/-- A glitch break as one update of its line and a watch entry (R27). -/
theorem glitchBreak_eq :
    s.glitchBreak n
      = (s.updLine n fun x =>
          { x with
            pd := { x.pd with
              state := .make, makeTimer := min 65535 (x.pd.mPrev + x.pd.b + (s.snapshot n).makeMin)
              flags := { x.pd.flags with bounce := x.pd.flags.bounce || x.pd.inDigit } }
            mu := { x.mu with stats := x.mu.stats.addGlitch } }).watchEntry n .brk (s.line n).pd.b .glitch := by
  rw [State.glitchBreak]
  simp only [count_eq_updLine, updPd_eq, updLine_updLine, line_updLine_self]
  rfl

/-- A break error as one update of its line, its record and a watch entry (R29). -/
theorem breakError_eq :
    s.breakError n
      = ((s.updLine n fun x =>
          { x with
            pd := { x.pd with
              state := .make, makeTimer := (s.snapshot n).makeMin, inDigit := false, tId := none, pulseCount := 0 }
            mu := { x.mu with stats := x.mu.stats.addBreakError } }).send .breakError n 0 (min 255 ((s.line n).pd.b / 4))
          (s.line n).pd.pulseCount).watchEntry n .brk (s.line n).pd.b .breakError := by
  rw [State.breakError]
  simp only [count_eq_updLine, updPd_eq]
  rw [← send_updLine _ _ _ _ _ _ _ (by rfl), updLine_updLine]
  rfl

/-- A masked flash as one update of its line and a watch entry (R31). -/
theorem flash_masked (masked : (s.line n).pd.flashMask = true) :
    s.flash n
      = (s.updLine n fun x =>
          { x with
            pd := { x.pd with
              state := .make, makeTimer := (s.snapshot n).makeMin, inDigit := false, tId := none, pulseCount := 0 }
            mu := { x.mu with stats := x.mu.stats.addFlash } }).watchEntry n .brk (s.line n).pd.b .flashMasked := by
  rw [State.flash]
  simp only [masked, if_true, count_eq_updLine, updPd_eq, updLine_updLine]
  rfl

/-- The state after an unmasked flash has been sent (R30). -/
def flashSent (s : State) (n : LineId) : State :=
  (s.updLine n fun x =>
    { x with
      pd := { x.pd with
        state := .make, makeTimer := (s.snapshot n).makeMin, inDigit := false, tId := none, pulseCount := 0
        seq := (s.line n).pd.seq + 1, flashMask := true } }).send .flash n ((s.line n).pd.seq + 1)
    (min 255 ((s.line n).pd.b / 4)) (s.line n).pd.pulseCount

/-- An unmasked flash: sent, in CONVERSATION with flash_tone offered, and counted (R30, R32). -/
theorem flash_unmasked (unmasked : (s.line n).pd.flashMask = false) :
    s.flash n
      = (((if (s.snapshot n).flashTone = true ∧ (s.line n).npw.stage = .conversation then
            (flashSent s n).offerFlash n ((s.line n).pd.seq + 1)
          else flashSent s n)).updLine n fun x => { x with mu := { x.mu with stats := x.mu.stats.addFlash } }).watchEntry n
          .brk (s.line n).pd.b .flash := by
  have sent : ((s.updPd n fun x => x.abandon.toMake (s.snapshot n).makeMin).updPd n fun x =>
      { x with seq := (s.line n).pd.seq + 1, flashMask := true }).send .flash n ((s.line n).pd.seq + 1)
        (capOctet ((s.line n).pd.b / 4)) (s.line n).pd.pulseCount = flashSent s n := by
    simp only [updPd_eq, updLine_updLine]
    rfl
  have stage : ((flashSent s n).line n).npw.stage = (s.line n).npw.stage := by
    rw [flashSent, line_send, line_updLine_self]
  rw [State.flash]
  simp only [unmasked, Bool.false_eq_true, if_false, count_eq_updLine, sent, stage]

end

/-- Settles O44: the classes of `classifyBreak`, each as one update of the line with its records. -/
theorem otherBreaksAreClassified : Obligations.OtherBreaksAreClassified := by
  unfold Obligations.OtherBreaksAreClassified
  rintro n s u l e rfl rfl rfl
  simp only [exec_makeConfirmed]
  refine ⟨fun notDue => ?_, fun due pending reached => ?_⟩
  · rw [State.makeConfirmed, State.snapshot, if_neg notDue]
  have classified : s.boundaryFirst.makeConfirmed n = (s.boundaryFirst.setDue n .nothing).classify n :=
    makeConfirmed_of_due _ n due pending reached
  rw [classified, State.classify, line_pd_setDue, snapshot_setDue, State.snapshot]
  refine ⟨fun below => ?_, fun atLeast above below => ?_, fun atLeast above flash masked => ?_,
    fun atLeast above flash unmasked v w v_eq w_eq => ?_⟩
  · rw [classifyBreak_glitch below]
    dsimp only
    rw [glitchBreak_eq, line_pd_setDue, snapshot_setDue, setDue_eq, setDue_eq, updLine_updLine, ← watchEntry_updLine,
      updLine_updLine]
    rfl
  · rw [classifyBreak_breakError atLeast above below]
    dsimp only
    rw [breakError_eq, line_pd_setDue, snapshot_setDue, setDue_eq, updLine_updLine]
    rfl
  · rw [classifyBreak_flash atLeast above flash]
    dsimp only
    rw [flash_masked _ n (by rwa [line_pd_setDue]), line_pd_setDue, snapshot_setDue, setDue_eq, updLine_updLine]
    rfl
  · have sent : flashSent (s.boundaryFirst.setDue n .nothing) n = v := by
      rw [v_eq, flashSent, line_pd_setDue, snapshot_setDue, setDue_eq, updLine_updLine]
      refine congrArg (fun t : State => t.send _ n _ _ _) (updLine_congr _ n _ _ ?_)
      rfl
    have stage : ((s.boundaryFirst.setDue n .nothing).line n).npw.stage = (s.boundaryFirst.line n).npw.stage := by
      rw [setDue_eq, line_updLine_self]
    have time : v.timestamp = s.boundaryFirst.timestamp := by rw [v_eq, timestamp_send]; rfl
    have offered : v.offerFlash n ((s.boundaryFirst.line n).pd.seq + 1)
        = match v.offer n ⟨.fl, 0, {}, (s.boundaryFirst.line n).pd.seq + 1, s.boundaryFirst.timestamp, .none⟩ with
          | (none, t) => t.reviewRequest n
          | (some why, t) => t.send .digitDropped n ((s.boundaryFirst.line n).pd.seq + 1) why.code 0 := by
      rw [State.offerFlash, time] <;> rfl
    rw [classifyBreak_flash atLeast above flash]
    dsimp only
    rw [flash_unmasked _ n (by rwa [line_pd_setDue]), line_pd_setDue, snapshot_setDue, sent, stage, offered, w_eq]
    rfl

/-! ## DIGIT_COMPLETE -/

theorem exec_digitComplete (n : LineId) (s : State) :
    exec (.digitComplete n) s = .next (s.boundaryFirst.digitComplete n) := rfl

theorem digitLimitReached_iff (d : PdLine) :
    d.digitLimitReached = true ↔ d.inDigit = true ∧ ∃ threshold, d.tId = some threshold ∧ threshold ≤ d.makeTimer := by
  unfold PdLine.digitLimitReached
  cases d.tId <;> simp

theorem digitOf_over {numbering : Numbering} {pulses : Nat} (above : 11 ≤ pulses) : digitOf numbering pulses = none :=
  if_neg (by omega)

/-- The symbol of one to ten pulses (R34). -/
theorem digitOf_symbol {numbering : Numbering} {pulses : Nat} {symbol : Fin 10} (low : 1 ≤ pulses) (high : pulses ≤ 10)
    (standard : numbering = .standard → symbol.val = pulses % 10) (inverted : numbering = .inverted → symbol.val = 10 - pulses)
    (offset : numbering = .offset → symbol.val = pulses - 1) : digitOf numbering pulses = some symbol := by
  unfold digitOf
  rw [if_pos ⟨low, high⟩]
  cases numbering with
  | standard => exact congrArg some (Fin.ext (standard rfl).symm)
  | inverted =>
    refine congrArg some (Fin.ext ?_)
    rw [inverted rfl]
    exact Nat.mod_eq_of_lt (by omega)
  | offset =>
    refine congrArg some (Fin.ext ?_)
    rw [offset rfl]
    exact Nat.mod_eq_of_lt (by omega)

/-- Settles O45: the end of the digit, then the mapping of its pulses. -/
theorem completedDigitsAreMapped : Obligations.CompletedDigitsAreMapped := by
  unfold Obligations.CompletedDigitsAreMapped
  intro n s u v l e flags u_eq l_eq e_eq flags_eq v_eq
  subst u_eq l_eq e_eq
  rw [exec_digitComplete]
  refine ⟨fun notDue => ?_, fun threshold due state inDigit tId reached => ?_⟩
  · rw [State.digitComplete, if_neg]
    rintro ⟨due, state, reached⟩
    exact notDue ⟨due, state, (digitLimitReached_iff _).mp reached⟩
  have isDue : s.boundaryFirst.digitComplete n = (s.boundaryFirst.setDue n .nothing).completeDigit n :=
    if_pos ⟨due, state, (digitLimitReached_iff _).mpr ⟨inDigit, threshold, tId, reached⟩⟩
  have ended : ((s.boundaryFirst.setDue n .nothing).updPd n fun x =>
      { x.abandon with seq := (s.boundaryFirst.line n).pd.seq + 1 }).watchEntry n .make (s.boundaryFirst.line n).pd.makeTimer
        .interDigit = v := by
    rw [v_eq, setDue_eq, updPd_eq, updLine_updLine]
    refine congrArg (fun t : State => t.watchEntry n _ _ _) (updLine_congr _ n _ _ ?_)
    rfl
  have snapshot : v.snapshot n = (s.boundaryFirst.line n).pt.snapshot := by
    rw [State.snapshot, v_eq, line_watchEntry, line_updLine_self]
  have time : v.timestamp = s.boundaryFirst.timestamp := by
    rw [v_eq, State.watchEntry]
    split <;> rfl
  have value : (s.boundaryFirst.line n).pd.flags.value = flags := flags_eq.symm
  rw [isDue, State.completeDigit]
  simp only [line_pd_setDue]
  rw [ended, snapshot, time]
  refine ⟨fun over_ => ?_, fun symbol w low high standard inverted offset w_eq => ?_⟩
  · rw [digitOf_over over_, State.overcount, digitArg2, value]
    rfl
  · rw [digitOf_symbol low high standard inverted offset]
    dsimp only
    rw [State.validDigit, digitArg2, value]
    have counted : v.count n Statistics.addDigit = w := w_eq.symm
    have reports : (w.snapshot n).digitReports = (s.boundaryFirst.line n).pt.snapshot.digitReports := by
      rw [← snapshot, State.snapshot, w_eq, line_updLine_self, State.snapshot]
    simp only [counted, reports]

/-! ## Digits in the walker -/

section
variable {s : State} {n : LineId} {o : Offer} {accepted : State → State} {t : State}

theorem offerOrReject_stored (stored : s.offer n o = (none, t)) :
    s.offerOrReject n o accepted = (accepted t).reviewRequest n := by
  rw [State.offerOrReject, stored]

theorem offerOrReject_refused {why : StoreRefusal} (refused : s.offer n o = (some why, t)) :
    s.offerOrReject n o accepted = t.reject n .overflow o.seq := by
  rw [State.offerOrReject, refused]

end

theorem digitToWalker_conversation {s : State} {n : LineId} (d : Digit) (conversation : (s.line n).npw.stage = .conversation) :
    s.digitToWalker n d
      = match s.offer n (d.offer .none) with
        | (none, t) => t.reviewRequest n
        | (some why, t) => t.send .digitDropped n d.seq why.code (digitArg2 d.pulses d.flags) := by
  rw [State.digitToWalker, conversation] <;> rfl

theorem digitToWalker_pending {s : State} {n : LineId} (d : Digit) (dialling : (s.line n).npw.stage = .dialling)
    (pending : (s.line n).npw.held = true ∨ (s.line n).npw.completePending = true) :
    s.digitToWalker n d
      = (s.updLine n fun y => { y with npw := { y.npw with digitSeen := true } }).offerOrReject n (d.offer .unwalked) id := by
  rw [State.digitToWalker, dialling]
  dsimp only
  rw [updNpw_eq, line_updLine_self]
  exact if_pos (by simpa using pending)

theorem digitToWalker_walks {s : State} {n : LineId} (d : Digit) (dialling : (s.line n).npw.stage = .dialling)
    (held : (s.line n).npw.held = false) (pending : (s.line n).npw.completePending = false) :
    s.digitToWalker n d = (s.updLine n fun y => { y with npw := { y.npw with digitSeen := true } }).walk n d := by
  rw [State.digitToWalker, dialling]
  dsimp only
  rw [updNpw_eq, line_updLine_self]
  exact if_neg (by simp [held, pending])

/-- Below the digit limit the branch of the current node decides the walk of a digit (R93). -/
theorem walk_below {w : State} {n : LineId} (d : Digit) (below : (w.line n).npw.walked < 24) :
    w.walk n d
      = let x := w.updLine n fun y => { y with npw := { y.npw with walked := y.npw.walked + 1 } }
        match (w.plan[(w.line n).npw.node])[d.symbol] with
        | .cont target =>
          x.offerOrReject n (d.offer .none) fun t => t.updLine n fun y => { y with npw := { y.npw with node := target } }
        | .complete => x.offerOrReject n (d.offer .none) fun t => t.reachComplete n d.seq
        | .hold target => x.offerOrReject n (d.offer .held) fun t => t.reachHold n target d.seq d.symbol
        | .reject => x.reject n .noRoute d.seq := by
  have branch : (w.updNpw n fun y => { y with walked := y.walked + 1 }).branchFor n d.symbol
      = (w.plan[(w.line n).npw.node])[d.symbol] := by
    have node : ((w.updNpw n fun y => { y with walked := y.walked + 1 }).line n).npw.node = (w.line n).npw.node := by simp
    exact congrArg (fun k : Fin 64 => (w.plan[k])[d.symbol]) node
  have limit : ¬ Config.digitLimit ≤ (w.line n).npw.walked := Nat.not_le.mpr below
  rw [State.walk, if_neg limit]
  dsimp only
  rw [branch]
  rfl

/-- Settles O46: the stages, and in DIALLING the branches of `walk_below`. -/
theorem digitsAreWalkedByStage : Obligations.DigitsAreWalkedByStage := by
  unfold Obligations.DigitsAreWalkedByStage
  intro s w x n d l offered l_eq offered_eq w_eq x_eq
  subst l_eq
  have offers (m : Mark) : offered m = d.offer m := offered_eq m
  have seq (m : Mark) : (d.offer m).seq = d.seq := rfl
  refine ⟨fun rejected => ?_, fun conversation t => ?_, fun dialling => ⟨fun pending t => ?_, fun held pending => ?_⟩⟩
  · rw [State.digitToWalker, rejected]
  · rw [digitToWalker_conversation d conversation, offers]
    exact ⟨fun stored => by rw [stored], fun why refused => by rw [refused]; rfl⟩
  · rw [digitToWalker_pending d dialling pending, offers, ← w_eq]
    exact ⟨offerOrReject_stored, fun why refused => offerOrReject_refused refused⟩
  · have npw_w : (w.line n).npw = { (s.line n).npw with digitSeen := true } := by rw [w_eq, line_updLine_self]
    rw [digitToWalker_walks d dialling held pending, ← w_eq]
    refine ⟨fun limit => ?_, fun below => ?_⟩
    · rw [State.walk]
      exact if_pos (by rw [npw_w]; exact limit)
    have plan : (w.plan[(w.line n).npw.node])[d.symbol] = (s.plan[(s.line n).npw.node])[d.symbol] := by
      have node : (w.line n).npw.node = (s.line n).npw.node := by rw [npw_w]
      have same : w.plan = s.plan := by rw [w_eq]; rfl
      rw [same]
      exact congrArg (fun k : Fin 64 => (s.plan[k])[d.symbol]) node
    have npw_x : (x.line n).npw = { (s.line n).npw with digitSeen := true, walked := (s.line n).npw.walked + 1 } := by
      rw [x_eq, line_updLine_self, npw_w]
    have npw_t {m : Mark} {t : State} (stored : x.offer n (d.offer m) = (none, t)) : (t.line n).npw = (x.line n).npw := by
      have kept := npw_offer x n (d.offer m)
      rwa [stored] at kept
    rw [walk_below d (by rw [npw_w]; exact below), ← x_eq, plan]
    simp only [offers]
    refine ⟨fun route => by rw [route], fun t why ⟨m, route, refused⟩ => ?_, fun t k route stored => ?_, fun t route stored => ?_,
      fun t k route stored => ?_⟩
    · rcases route with ⟨rfl, complete | ⟨k, cont⟩⟩ | ⟨rfl, k, hold⟩
      · rw [complete]; exact offerOrReject_refused refused
      · rw [cont]; exact offerOrReject_refused refused
      · rw [hold]; exact offerOrReject_refused refused
    · rw [route]; exact offerOrReject_stored stored
    · rw [route]
      dsimp only
      rw [offerOrReject_stored stored, reachComplete_eq, npw_t stored, npw_x]
    · rw [route]
      dsimp only
      rw [offerOrReject_stored stored, reachHold_eq, npw_t stored, npw_x]

/-! ## Rejects -/

/-- Settles O47: the records in emission and the others. -/
theorem rejectPurgesAndReports : Obligations.RejectPurgesAndReports := by
  unfold Obligations.RejectPurgesAndReports
  intro s n reason seq kept gone queue flag
  obtain ⟨emitting, notEmitting⟩ : (s.line n).ds.emitting = kept ∧ (s.line n).ds.notEmitting = gone := by
    rw [DsLine.emitting, DsLine.notEmitting, queue]
    rcases flag with ⟨clear, rfl⟩ | ⟨set, one⟩
    · simp [clear]
    · simp [set, ← one]
  rw [State.reject, State.purgeWaiting, State.takeOff]
  simp only [updNpw_eq, updDs_eq, updLine_updLine, line_updLine_self, emitting, notEmitting, freeList_updLine]
  rfl

/-! ## RELEASE -/

theorem exec_release (n : LineId) (s : State) : exec (.release n) s = .next (s.boundaryFirst.release n) := rfl

/-- Settles O48: `releaseLine_eq`, with the tick's work taken off the line. -/
theorem releaseEndsTheCall : Obligations.ReleaseEndsTheCall := by
  unfold Obligations.ReleaseEndsTheCall
  rintro n s u l rfl rfl
  rw [exec_release]
  refine ⟨fun notDue => ?_, fun due => ?_⟩
  · rw [State.release, if_neg notDue]
  · rw [State.release, if_pos due, releaseLine_eq, setDue_eq, givenUp_updLine _ _ _ rfl rfl, updLine_updLine, line_updLine_self]
    rfl

/-! ## The call timers -/

theorem exec_dialTimeout (n : LineId) (s : State) : exec (.dialTimeout n) s = .next (s.boundaryFirst.dialTimeout n) := rfl

theorem exec_autoProceedExpiry (n : LineId) (s : State) :
    exec (.autoProceedExpiry n) s = .next (s.boundaryFirst.autoProceedExpiry n) := rfl

theorem timerRuns_iff (l : Line) :
    l.timerRuns = true
      ↔ l.npw.stage = .dialling ∧ l.npw.digitSeen = true ∧ l.ds.queue = [] ∧ l.pd.inDigit = false
        ∧ l.es.emission ≠ .toneOn ∧ l.es.emission ≠ .toneOff ∧ l.npw.held = false := by
  simp [Line.timerRuns, and_assoc]

theorem endTimerReached_iff (l : Line) :
    l.endTimerReached = true ↔ ∃ t, l.npw.timer = some t ∧ l.pt.snapshot.endTimeout ≤ t := by
  unfold Line.endTimerReached
  cases l.npw.timer <;> simp

theorem autoTimerReached_iff (l : Line) :
    l.autoTimerReached = true ↔ ∃ t, l.es.autoTimer = some t ∧ l.pt.snapshot.autoProceed ≤ t := by
  unfold Line.autoTimerReached
  cases l.es.autoTimer <;> simp

/-- Settles O49: each timer before its time and at it. -/
theorem callTimersExpire : Obligations.CallTimersExpire := by
  unfold Obligations.CallTimersExpire
  rintro n s u l rfl rfl
  rw [exec_dialTimeout, exec_autoProceedExpiry]
  refine ⟨fun before => ?_, fun t runs timer reached spelled => ?_, fun before => ?_, fun t timer reached => ?_⟩
  · have notReached : ¬ (s.boundaryFirst.line n).endTimerReached = true := by
      rw [endTimerReached_iff]
      rintro ⟨t, timer, reached⟩
      exact absurd reached (Nat.not_le.mpr (before t timer))
    rw [State.dialTimeout, if_neg notReached]
  · have isReached := (endTimerReached_iff _).mpr ⟨t, timer, reached⟩
    have running : (s.boundaryFirst.line n).timerRuns = true ↔ runs := (timerRuns_iff _).trans spelled.symm
    rw [State.dialTimeout, if_pos isReached]
    refine ⟨fun yes => ?_, fun no => ?_⟩
    · rw [if_pos (running.mpr yes)]
      rfl
    · rw [if_neg (mt running.mp no)]
      rfl
  · have notReached : ¬ (s.boundaryFirst.line n).autoTimerReached = true := by
      rw [autoTimerReached_iff]
      rintro ⟨t, timer, reached⟩
      exact absurd reached (Nat.not_le.mpr (before t timer))
    rw [State.autoProceedExpiry, if_neg notReached]
  · rw [State.autoProceedExpiry, if_pos ((autoTimerReached_iff _).mpr ⟨t, timer, reached⟩)]
    rfl

end Sys2Proof.Machine

namespace Sys2Proof.Machine

/-! ## GENERATOR_GRANT -/

theorem exec_generatorGrant (s : State) : exec .generatorGrant s = .next s.boundaryFirst := rfl

/-- Grants to different lines, each with a queue, of different generators: each line and each generator as its own grant
leaves it (R116). -/
theorem foldl_grant (pairs : List (LineId × Fin 8)) (s : State) (lines : (pairs.map Prod.fst).Nodup)
    (gens : (pairs.map Prod.snd).Nodup) (queues : ∀ n ∈ pairs.map Prod.fst, (s.line n).ds.queue ≠ []) :
    (∀ n g, (n, g) ∈ pairs →
        (pairs.foldl (fun t x => t.grant x.1 x.2) s).line n = lineGranted g (s.line n)
          ∧ ∀ head rest, (s.line n).ds.queue = head :: rest →
            (pairs.foldl (fun t x => t.grant x.1 x.2) s).gen g
              = (s.gen g).setUp n head.symbol (s.snapshot n) ((s.line n).lat.service == .test))
      ∧ (∀ n, n ∉ pairs.map Prod.fst → (pairs.foldl (fun t x => t.grant x.1 x.2) s).line n = s.line n)
      ∧ ∀ g, g ∉ pairs.map Prod.snd → (pairs.foldl (fun t x => t.grant x.1 x.2) s).gen g = s.gen g := by
  induction pairs generalizing s with
  | nil => exact ⟨fun _ _ h => absurd h (by simp), fun _ _ => rfl, fun _ _ => rfl⟩
  | cons x rest ih =>
    obtain ⟨m, k⟩ := x
    obtain ⟨freshLine, lines⟩ := List.nodup_cons.mp lines
    obtain ⟨freshGen, gens⟩ := List.nodup_cons.mp gens
    have lineOf (n : LineId) (later : n ∈ rest.map Prod.fst) : (s.grant m k).line n = s.line n :=
      line_grant_of_ne s k fun same : n = m => freshLine (same ▸ later)
    have genOf (g : Fin 8) (later : g ∈ rest.map Prod.snd) : (s.grant m k).gen g = s.gen g :=
      gen_grant_of_ne s m fun same : g = k => freshGen (same ▸ later)
    obtain ⟨each, otherLines, otherGens⟩ := ih (s.grant m k) lines gens fun n later => by
      rw [lineOf n later]
      exact queues n (List.mem_cons_of_mem _ later)
    refine ⟨fun n g isIn => ?_, fun n out => ?_, fun g out => ?_⟩
    · rw [List.foldl_cons]
      rcases List.mem_cons.mp isIn with first | later
      · obtain ⟨rfl, rfl⟩ : n = m ∧ g = k := by simpa using first
        obtain ⟨head, tail, queue⟩ := List.exists_cons_of_ne_nil (queues n (List.mem_cons_self ..))
        rw [otherLines n freshLine, otherGens g freshGen, grant_cons g queue]
        refine ⟨by rw [line_updGen, line_updLine_self], fun head' rest' queue' => ?_⟩
        obtain ⟨rfl, _⟩ : head = head' ∧ tail = rest' := by simpa [queue] using queue'
        rw [gen_updGen_self, gen_updLine]
      · have isLine : n ∈ rest.map Prod.fst := List.mem_map.mpr ⟨(n, g), later, rfl⟩
        have isGen : g ∈ rest.map Prod.snd := List.mem_map.mpr ⟨(n, g), later, rfl⟩
        have this := each n g later
        rwa [lineOf n isLine, genOf g isGen, State.snapshot, lineOf n isLine] at this
    · obtain ⟨apart, out⟩ : n ≠ m ∧ n ∉ rest.map Prod.fst := by simpa using out
      rw [List.foldl_cons, otherLines n out, line_grant_of_ne s k apart]
    · obtain ⟨apart, out⟩ : g ≠ k ∧ g ∉ rest.map Prod.snd := by simpa using out
      rw [List.foldl_cons, otherGens g out, gen_grant_of_ne s m apart]

theorem arbitrate_eq (s : State) :
    s.arbitrate
      = (s.waiting.zip s.freeGenerators).foldl (fun t x => t.grant x.1 x.2)
          { s with waiting := s.waiting.drop s.freeGenerators.length, arbiterDue := false } := rfl

/-- Settles O50: the grants of `foldl_grant`, to the pairs that stand at the same place in both lists. -/
theorem arbiterGrantsInOrder : Obligations.ArbiterGrantsInOrder := by
  unfold Obligations.ArbiterGrantsInOrder
  refine ⟨?increments, rfl, rfl, fun s notDue => ?idle, ?grants⟩
  case increments =>
    intro d low high row
    simp only [List.mem_cons, List.not_mem_nil, or_false, Prod.mk.injEq] at row
    rcases row with h | h | h | h | h | h | h | h | h | h
    all_goals
      obtain ⟨rfl, rfl, rfl⟩ := h
      exact ⟨rfl, rfl⟩
  case idle => rw [exec_generatorGrant, boundaryFirst_of_not_due s notDue]
  case grants =>
    intro s free due once free_eq queues
    have free_eq' : s.freeGenerators = free := free_eq.symm
    have fsts : (s.waiting.zip free).map Prod.fst = s.waiting.take free.length := map_fst_zip_eq_take _ _
    have snds : (s.waiting.zip free).map Prod.snd = free.take s.waiting.length := map_snd_zip_eq_take _ _
    obtain ⟨each, lines, gens⟩ := foldl_grant (s.waiting.zip free)
      { s with waiting := s.waiting.drop free.length, arbiterDue := false }
      (by rw [fsts]; exact once.sublist (List.take_sublist _ _))
      (by rw [snds, ← free_eq']; exact (freeGenerators_nodup s).sublist (List.take_sublist _ _))
      (by rw [fsts]; exact fun n isIn => queues n (List.mem_of_mem_take isIn))
    obtain ⟨ls, gs, frame⟩ := foldl_grant_frame (s.waiting.zip free)
      { s with waiting := s.waiting.drop free.length, arbiterDue := false }
    refine ⟨_, by rw [exec_generatorGrant, State.boundaryFirst, if_pos due, arbitrate_eq, free_eq'], by rw [frame],
      fun k n g head rest isLine isGen queue => ?_, fun n out => lines n (by rwa [fsts]), fun g out => gens g (by rwa [snds])⟩
    have pair : (n, g) ∈ s.waiting.zip free :=
      List.mem_of_getElem? (List.getElem?_zip_eq_some.mpr ⟨isLine, isGen⟩)
    obtain ⟨line, gen⟩ := each n g pair
    refine ⟨line, (gen head rest queue).trans ?_⟩
    rw [Generator.setUp]
    simp only [beq_iff_eq]
    rfl

/-! ## The ends of the phases -/

theorem exec_onPhaseEnd (n : LineId) (s : State) : exec (.onPhaseEnd n) s = .next (s.boundaryFirst.onPhaseEnd n) := rfl

theorem exec_offPhaseEnd (n : LineId) (s : State) : exec (.offPhaseEnd n) s = .next (s.boundaryFirst.offPhaseEnd n) := rfl

theorem line_headFreed (s : State) (n : LineId) (g : Fin 8) (head : DigitRecord) (rest : List DigitRecord) :
    (headFreed s n g head rest).line n = { s.line n with ds := { queue := rest, inEmission := false } } :=
  line_updLine_self (s.updGen g fun x => { x with holder := none }) n fun x =>
    { x with ds := { queue := rest, inEmission := false } }

theorem testBurst_eq (s : State) (n : LineId) (g : Fin 8) (head : DigitRecord) :
    s.testBurst n g head
      = { s with
          check := some
            { line := n, symbol := head.symbol, samples := (s.snapshot n).toneOn * 8, peak := (s.gen g).peak
              saturated := (s.gen g).saturated } }.updPort .m fun q =>
          q.accept ⟨.testBurst, lineTarget n, (s.line n).lat.epoch, head.seq, octet head.symbol.code,
            octet (min 255 (s.gen g).saturated), s.timestamp⟩ := rfl

/-- The end of an off-phase that is due: IDLE, the drained-queue report, the request conditions (R119). -/
theorem offPhaseEnd_due {s : State} {n : LineId} (due : (s.line n).es.emission = .toneOff ∧ (s.line n).es.remaining = 0) :
    s.offPhaseEnd n
      = let v := s.updLine n fun x => { x with es := { x.es with emission := .idle } }
        (if (s.line n).ds.queue.isEmpty then v.drainedQueue n else v).reviewRequest n := by
  rw [State.offPhaseEnd, if_pos due]
  simp only [updEs_eq, line_updLine_self]

/-- Settles O51: `endOnPhase_eq`, and the cases of the drained queue. -/
theorem phasesOfABurstEnd : Obligations.PhasesOfABurstEnd := by
  unfold Obligations.PhasesOfABurstEnd
  constructor
  · intro n s u v w l g head rest u_eq l_eq v_eq w_eq
    subst u_eq l_eq
    rw [exec_onPhaseEnd]
    refine ⟨fun notDue => ?_, fun on over_ holds queue => ?_⟩
    · rw [State.onPhaseEnd, if_neg notDue]
    have ended : burstEnded s.boundaryFirst n g head rest = v := by
      rw [v_eq, burstEnded]
      refine congrArg (fun t : State => { t with freeList := s.boundaryFirst.freeList ++ [head.number] })
        (updLine_congr _ n _ _ ?_)
      rfl
    have line_v : (v.line n).lat = (s.boundaryFirst.line n).lat ∧ (v.line n).pt = (s.boundaryFirst.line n).pt := by
      rw [← ended, burstEnded_eq, line_updLine_self, line_headFreed]
      exact ⟨rfl, rfl⟩
    obtain ⟨lat, pt⟩ := line_v
    have reported : emittedReported v n g head = w := by rw [w_eq, emittedReported, pt]
    have line_w : w.line n = v.line n := by rw [← reported, line_emittedReported]
    have gen_w : w.gen g = { s.boundaryFirst.gen g with holder := none } := by
      have gen_v : (burstEnded s.boundaryFirst n g head rest).gen g
          = (s.boundaryFirst.updGen g fun x => { x with holder := none }).gen g := rfl
      rw [← reported, gen_emittedReported, ← ended, gen_v, gen_updGen_self]
    have time_w : w.timestamp = s.boundaryFirst.timestamp := by
      have time_v : v.timestamp = s.boundaryFirst.timestamp := by rw [v_eq]; rfl
      rw [w_eq]
      split
      · rw [timestamp_send, time_v]
      · exact time_v
    rw [State.onPhaseEnd, if_pos ⟨on, over_⟩, holds, queue]
    dsimp only
    rw [endOnPhase_eq, ended, reported, testBurst_eq, State.snapshot, line_w, gen_w, time_w, lat, pt]
  · intro n s u v l u_eq l_eq v_eq
    subst u_eq l_eq
    rw [exec_offPhaseEnd]
    refine ⟨fun notDue => ?_, fun off over_ => ⟨fun empty dialling pending => ?_, fun notDrained => ?_⟩⟩
    · rw [State.offPhaseEnd, if_neg notDue]
    · rw [offPhaseEnd_due ⟨off, over_⟩, ← v_eq]
      have line_v : (v.line n).npw = (s.boundaryFirst.line n).npw := by rw [v_eq, line_updLine_self]
      dsimp only
      rw [if_pos (List.isEmpty_iff.mpr empty), State.drainedQueue, line_v, if_pos ⟨dialling, pending⟩]
      rfl
    · rw [offPhaseEnd_due ⟨off, over_⟩, ← v_eq]
      have line_v : (v.line n).npw = (s.boundaryFirst.line n).npw := by rw [v_eq, line_updLine_self]
      dsimp only
      split
      · next empty =>
        rw [State.drainedQueue, line_v, if_neg]
        rintro ⟨dialling, pending⟩
        exact notDrained ⟨List.isEmpty_iff.mp empty, dialling, pending⟩
      · rfl

/-! ## The sample of a burst -/

theorem sine_mirror : ∀ i : Fin 129, sine (128 - i.val) = sine i.val := by decide

theorem sineQuarter_le (i : Nat) : sineQuarter.getD i 0 ≤ 32767 := by
  have all : ∀ x ∈ sineQuarter, x ≤ 32767 := by decide
  rw [List.getD_eq_getElem?_getD]
  cases entry : sineQuarter[i]? with
  | none => exact Nat.zero_le _
  | some x => exact all x (List.mem_of_getElem? entry)

theorem sine_reflected : ∀ i : Fin 129, sine (256 - i.val) = -sine i.val := by decide

theorem sine_odd (i : Nat) (_ : 1 ≤ i) (high : i ≤ 255) : sine (256 - i) = -sine i := by
  rcases Nat.le_total i 128 with first | second
  · exact sine_reflected ⟨i, by omega⟩
  · have reflected : sine (256 - (256 - i)) = -sine (256 - i) := sine_reflected ⟨256 - i, by omega⟩
    rw [Nat.sub_sub_self (by omega)] at reflected
    rw [reflected, Int.neg_neg]

theorem sine_range (i : Nat) : -32767 ≤ sine i ∧ sine i ≤ 32767 := by
  have rising := sineQuarter_le i
  have falling := sineQuarter_le (128 - i)
  have sinking := sineQuarter_le (i - 128)
  have climbing := sineQuarter_le (256 - i)
  rw [sine]
  split
  · omega
  split
  · omega
  split <;> omega

/-- Settles O53: the table by `sine_near` and its symmetries, the sample by the place of its value. -/
theorem burstSampleIsTheScaledSum : Obligations.BurstSampleIsTheScaledSum := by
  unfold Obligations.BurstSampleIsTheScaledSum
  refine ⟨sine_near, fun i small => sine_mirror ⟨i, by omega⟩, sine_odd,
    fun i _ => sine_range i, by decide, fun g y y_eq => ?_⟩
  have raw : g.raw = y := y_eq.symm
  refine ⟨fun low high => ?_, fun above => ?_, fun below => ?_, rfl, ?_, ?_⟩
  · have value : g.value = y := by rw [Generator.value, raw]; omega
    have inside : g.isSaturated = false := by simp [Generator.isSaturated, raw]; omega
    refine ⟨by rw [Generator.sample, value], inside, ?_⟩
    rw [Generator.measure, value, inside]
    rfl
  · have value : g.value = 32767 := by rw [Generator.value, raw]; omega
    have outside : g.isSaturated = true := by simp [Generator.isSaturated, raw]; omega
    refine ⟨by rw [Generator.sample, value]; rfl, outside, ?_⟩
    rw [Generator.measure, value, outside]
    rfl
  · have value : g.value = -32768 := by rw [Generator.value, raw]; omega
    have outside : g.isSaturated = true := by simp [Generator.isSaturated, raw]; omega
    refine ⟨by rw [Generator.sample, value]; rfl, outside, ?_⟩
    rw [Generator.measure, value, outside]
    rfl
  · exact BitVec.toNat_add _ _
  · exact BitVec.toNat_add _ _

end Sys2Proof.Machine

namespace Sys2Proof.Machine

/-! ## What the work of a boundary leaves to HI -/

/-- The arbiter's turn, and HI's part of the state: whether a frame is open, its counters, and the samples placed. -/
def State.sync (s : State) : Bool × Bool × BitVec 3 × Timestamp × Vector Sample 32 × Vector Sample 32 :=
  (s.arbiterDue, s.frameOpen, s.frameCounter, s.timestamp, s.sUp, s.lDown)

theorem sync_foldl {α : Type} (f : State → α → State) (keeps : ∀ t x, (f t x).sync = t.sync) (xs : List α) (s : State) :
    (xs.foldl f s).sync = s.sync := by
  induction xs generalizing s with
  | nil => rfl
  | cons x rest ih => rw [List.foldl_cons, ih, keeps]

section
variable (s : State) (n : LineId)

@[simp] theorem sync_updLine (f : Line → Line) : (s.updLine n f).sync = s.sync := rfl

@[simp] theorem sync_updGen (g : Fin 8) (f : Generator → Generator) : (s.updGen g f).sync = s.sync := rfl

@[simp] theorem sync_deliver (p : PortId) (e : Event) : (s.deliver p e).sync = s.sync := by cases p <;> rfl

@[simp] theorem sync_send (k : EventKind) (q : BitVec 8) (x y : Nat) : (s.send k n q x y).sync = s.sync :=
  sync_foldl _ (fun t p => sync_deliver t p _) _ _

@[simp] theorem sync_sendAll (k : EventKind) (x : Nat) : (s.sendAll k x).sync = s.sync := by simp [State.sendAll]

@[simp] theorem sync_count (f : Statistics → Statistics) : (s.count n f).sync = s.sync := rfl

@[simp] theorem sync_watchEntry (k : Level) (d : Nat) (v : Verdict) : (s.watchEntry n k d v).sync = s.sync := by
  rcases watchEntry_spec s n k d v with h | ⟨_, h⟩ <;> rw [h]
  rfl

theorem OnlyLine.sync {s t : State} {n : LineId} (h : OnlyLine n s t) : t.sync = s.sync := by
  rw [h.1]
  rfl

@[simp] theorem sync_hand : (s.hand n).sync = s.sync := (OnlyLine.hand n s).sync

@[simp] theorem sync_takeOff (kept gone : List DigitRecord) : (s.takeOff n kept gone).sync = s.sync := rfl

@[simp] theorem sync_offer (o : Offer) : (s.offer n o).2.sync = s.sync := by
  rcases offer_spec s n o with ⟨_, h⟩ | ⟨_, _, h⟩ | ⟨_, _, _, _, h⟩ <;> rw [h]
  rfl

@[simp] theorem sync_reviewRequest : (s.reviewRequest n).sync = s.sync := by
  rcases reviewRequest_spec s n with h | ⟨_, _, h⟩ | ⟨_, _, h⟩ <;> rw [h] <;> rfl

@[simp] theorem sync_givenUp : (givenUp s n).sync = s.sync := by
  unfold givenUp
  cases (s.line n).es.emission with
  | toneOn => cases (s.line n).es.generator <;> rfl
  | _ => rfl

/-! ## The walker -/

@[simp] theorem sync_reject (why : RejectReason) (q : BitVec 8) : (s.reject n why q).sync = s.sync := by
  simp [State.reject, State.purgeWaiting]

@[simp] theorem sync_reachComplete (q : BitVec 8) : (s.reachComplete n q).sync = s.sync := by simp [State.reachComplete]

@[simp] theorem sync_reachHold (saved : Fin 64) (q : BitVec 8) (d : Fin 10) : (s.reachHold n saved q d).sync = s.sync := by
  simp [State.reachHold]

theorem sync_offerOrReject (o : Offer) (accepted : State → State) (keeps : ∀ t, (accepted t).sync = t.sync) :
    (s.offerOrReject n o accepted).sync = s.sync := by
  have offered := sync_offer s n o
  unfold State.offerOrReject
  split
  · next h => rw [h] at offered; rw [sync_reviewRequest, keeps, offered]
  · next h => rw [h] at offered; rw [sync_reject, offered]

@[simp] theorem sync_walk (d : Digit) : (s.walk n d).sync = s.sync := by
  unfold State.walk
  dsimp only
  split
  · simp
  split
  · exact sync_offerOrReject _ _ _ _ fun _ => rfl
  · exact sync_offerOrReject _ _ _ _ fun t => sync_reachComplete t n _
  · exact sync_offerOrReject _ _ _ _ fun t => sync_reachHold t n _ _ _
  · simp

@[simp] theorem sync_digitToWalker (d : Digit) : (s.digitToWalker n d).sync = s.sync := by
  have offered := sync_offer s n (d.offer .none)
  unfold State.digitToWalker
  split
  · dsimp only
    split
    · exact sync_offerOrReject _ _ _ _ fun _ => rfl
    · simp
  · rfl
  · split
    · next h => rw [h] at offered; rw [sync_reviewRequest, offered]
    · next h => rw [h] at offered; rw [sync_send, offered]
  · rfl

/-! ## The rows of a boundary -/

@[simp] theorem sync_dialTimeout : (s.dialTimeout n).sync = s.sync := by
  unfold State.dialTimeout
  split
  · split <;> simp
  · rfl

@[simp] theorem sync_autoProceedExpiry : (s.autoProceedExpiry n).sync = s.sync := by
  unfold State.autoProceedExpiry
  split <;> simp

@[simp] theorem sync_emittedReported (g : Fin 8) (head : DigitRecord) : (emittedReported s n g head).sync = s.sync := by
  unfold emittedReported
  split <;> simp

@[simp] theorem sync_testBurst (g : Fin 8) (head : DigitRecord) : (s.testBurst n g head).sync = s.sync := by
  unfold State.testBurst
  dsimp only
  rw [sync_deliver]
  rfl

@[simp] theorem sync_onPhaseEnd : (s.onPhaseEnd n).sync = s.sync := by
  unfold State.onPhaseEnd
  split
  · split
    · next g head rest _ _ =>
      have ended : (burstEnded s n g head rest).sync = s.sync := rfl
      rw [endOnPhase_eq]
      split <;> simp [ended]
    · rfl
  · rfl

@[simp] theorem sync_offPhaseEnd : (s.offPhaseEnd n).sync = s.sync := by
  unfold State.offPhaseEnd State.drainedQueue
  dsimp only
  split
  · split
    · split <;> simp
    · simp
  · rfl

@[simp] theorem sync_debouncedChange : (s.debouncedChange n).sync = s.sync := by
  unfold State.debouncedChange
  split <;> simp

@[simp] theorem sync_seizure : (s.seizure n).sync = s.sync := by
  unfold State.seizure
  split
  · simp [seize_eq]
  · rfl

@[simp] theorem sync_offerFlash (q : BitVec 8) : (s.offerFlash n q).sync = s.sync := by
  have offered := sync_offer s n ⟨.fl, 0, {}, q, s.timestamp, .none⟩
  unfold State.offerFlash
  split
  · next h => rw [h] at offered; rw [sync_reviewRequest, offered]
  · next h => rw [h] at offered; rw [sync_send, offered]

@[simp] theorem sync_pulse : (s.pulse n).sync = s.sync := by
  cases inDigit : (s.line n).pd.inDigit with
  | false => simp [pulse_first s n inDigit]
  | true => simp [pulse_pair s n inDigit]

@[simp] theorem sync_flash : (s.flash n).sync = s.sync := by
  unfold State.flash
  dsimp only
  split
  · simp
  · split <;> simp

@[simp] theorem sync_classify : (s.classify n).sync = s.sync := by
  unfold State.classify
  split
  · simp [State.glitchBreak]
  · simp
  · simp [State.breakError]
  · simp

@[simp] theorem sync_makeConfirmed : (s.makeConfirmed n).sync = s.sync := by
  unfold State.makeConfirmed
  split <;> simp

@[simp] theorem sync_validDigit (d : Digit) : (s.validDigit n d).sync = s.sync := by
  unfold State.validDigit
  dsimp only
  split <;> simp

@[simp] theorem sync_completeDigit : (s.completeDigit n).sync = s.sync := by
  unfold State.completeDigit
  dsimp only
  split
  · simp
  · simp [State.overcount]

@[simp] theorem sync_digitComplete : (s.digitComplete n).sync = s.sync := by
  unfold State.digitComplete
  split <;> simp

@[simp] theorem sync_release : (s.release n).sync = s.sync := by
  unfold State.release
  split
  · simp [releaseLine_eq]
  · rfl

@[simp] theorem sync_finishLine : (s.finishLine n).sync = s.sync := by
  unfold State.finishLine
  dsimp only
  split <;> simp

@[simp] theorem sync_advanceSegment : s.advanceSegment.sync = s.sync := by
  unfold State.advanceSegment
  split
  · split <;> rfl
  · rfl

@[simp] theorem sync_endPattern : s.endPattern.sync = s.sync := by
  unfold State.endPattern
  split
  · split
    · exact sync_deliver _ _ _
    · rfl
  · rfl

@[simp] theorem sync_scanLossReached : s.scanLossReached.sync = s.sync := by
  unfold State.scanLossReached
  split
  · exact sync_sendAll s .scanLoss Config.scanLossMisses
  · rfl

theorem sync_boundaryFirst : s.boundaryFirst.sync = (false, s.sync.2) := by
  obtain ⟨ls, gs, w, h⟩ := boundaryFirst_frame s
  rw [h]
  rfl

/-- Completing what a boundary owes is the arbiter's turn, and leaves HI's part. -/
theorem sync_finishFrame : s.finishFrame.sync = (false, s.sync.2) := by
  unfold State.finishFrame
  dsimp only
  rw [sync_scanLossReached, sync_endPattern, sync_advanceSegment, sync_foldl _ (by simp), sync_foldl _ (by simp),
    sync_foldl _ (by simp), sync_boundaryFirst]

end

end Sys2Proof.Machine

namespace Sys2Proof.Machine

/-! ## The work a boundary owes, as rows -/

theorem arbiterDue_of_sync {s t : State} (same : t.sync = s.sync) : t.arbiterDue = s.arbiterDue :=
  congrArg Prod.fst same

theorem afterRows_nil (s : State) : afterRows [] s = s := rfl

theorem afterRows_append (xs ys : List Instr) (s : State) : afterRows (xs ++ ys) s = afterRows ys (afterRows xs s) :=
  List.foldl_append ..

theorem afterRows_cons {c : Instr} {s t : State} (rows : List Instr) (next : exec c s = .next t) :
    afterRows (c :: rows) s = afterRows rows t := by
  rw [afterRows, List.foldl_cons, next, afterRows]

/-- A row that begins with the arbiter's turn, where the arbiter has acted. -/
theorem afterRows_cons_quiet {c : Instr} {s : State} (op : State → State) (rows : List Instr)
    (next : exec c s = .next (op s.boundaryFirst)) (acted : s.arbiterDue = false) :
    afterRows (c :: rows) s = afterRows rows (op s) := by
  rw [afterRows_cons rows next, boundaryFirst_of_not_due s acted]

/-- Rows for each line in turn, where the arbiter has acted and the rows of one line do `f`. -/
theorem afterRows_flatMap (rows : LineId → List Instr) (f : State → LineId → State)
    (each : ∀ t n, t.arbiterDue = false → afterRows (rows n) t = f t n) (keeps : ∀ t n, (f t n).sync = t.sync)
    (ns : List LineId) (s : State) (acted : s.arbiterDue = false) : afterRows (ns.flatMap rows) s = ns.foldl f s := by
  induction ns generalizing s with
  | nil => rfl
  | cons n rest ih =>
    rw [List.flatMap_cons, afterRows_append, each s n acted, List.foldl_cons]
    exact ih (f s n) ((arbiterDue_of_sync (keeps s n)).trans acted)

theorem afterRows_phaseEnds (t : State) (n : LineId) (acted : t.arbiterDue = false) :
    afterRows [.onPhaseEnd n, .offPhaseEnd n] t = (t.onPhaseEnd n).offPhaseEnd n := by
  have acted' : (t.onPhaseEnd n).arbiterDue = false := (arbiterDue_of_sync (sync_onPhaseEnd t n)).trans acted
  rw [afterRows_cons_quiet (·.onPhaseEnd n) _ (exec_onPhaseEnd n t) acted,
    afterRows_cons_quiet (·.offPhaseEnd n) _ (exec_offPhaseEnd n _) acted', afterRows_nil]

theorem afterRows_callTimers (t : State) (n : LineId) (acted : t.arbiterDue = false) :
    afterRows [.dialTimeout n, .autoProceedExpiry n] t = (t.dialTimeout n).autoProceedExpiry n := by
  have acted' : (t.dialTimeout n).arbiterDue = false := (arbiterDue_of_sync (sync_dialTimeout t n)).trans acted
  rw [afterRows_cons_quiet (·.dialTimeout n) _ (exec_dialTimeout n t) acted,
    afterRows_cons_quiet (·.autoProceedExpiry n) _ (exec_autoProceedExpiry n _) acted', afterRows_nil]

theorem updLine_of_eq {s : State} {n : LineId} {f : Line → Line} (same : f (s.line n) = s.line n) : s.updLine n f = s := by
  have whole : s.updLine n f = s.updLine n id := updLine_congr s n f id same
  rw [whole, State.updLine]
  simp

/-- What the tick still owes a line, as rows: tests of the timer limits that came to nothing are over with (R17). -/
def lineCompleted (s : State) (n : LineId) : State :=
  (afterRows [.debouncedStateChange n, .seizure n, .makeConfirmed n, .digitComplete n, .release n] s).updLine n
    fun l => { l with due := if l.due = .limits then .nothing else l.due }

theorem afterRows_lineRows (t : State) (n : LineId) (acted : t.arbiterDue = false) :
    afterRows [.debouncedStateChange n, .seizure n, .makeConfirmed n, .digitComplete n, .release n] t
      = ((((t.debouncedChange n).seizure n).makeConfirmed n).digitComplete n).release n := by
  have acted₁ := (arbiterDue_of_sync (sync_debouncedChange t n)).trans acted
  have acted₂ := (arbiterDue_of_sync (sync_seizure _ n)).trans acted₁
  have acted₃ := (arbiterDue_of_sync (sync_makeConfirmed _ n)).trans acted₂
  have acted₄ := (arbiterDue_of_sync (sync_digitComplete _ n)).trans acted₃
  rw [afterRows_cons _ (exec_debouncedStateChange n t), afterRows_cons_quiet (·.seizure n) _ (exec_seizure n _) acted₁,
    afterRows_cons_quiet (·.makeConfirmed n) _ (exec_makeConfirmed n _) acted₂,
    afterRows_cons_quiet (·.digitComplete n) _ (exec_digitComplete n _) acted₃,
    afterRows_cons_quiet (·.release n) _ (exec_release n _) acted₄, afterRows_nil]

theorem finishLine_eq_lineCompleted (t : State) (n : LineId) (acted : t.arbiterDue = false) :
    t.finishLine n = lineCompleted t n := by
  rw [lineCompleted, afterRows_lineRows t n acted, State.finishLine]
  split
  · next limits =>
    rw [setDue_eq]
    exact updLine_congr _ n _ _ (by rw [if_pos limits])
  · next other => exact (updLine_of_eq (by rw [if_neg other])).symm

theorem foldl_finishLine_eq (ns : List LineId) (t : State) (acted : t.arbiterDue = false) :
    ns.foldl State.finishLine t = ns.foldl lineCompleted t := by
  induction ns generalizing t with
  | nil => rw [List.foldl_nil, List.foldl_nil]
  | cons n rest ih =>
    simp only [List.foldl_cons]
    rw [← finishLine_eq_lineCompleted t n acted, ih _ ((arbiterDue_of_sync (sync_finishLine t n)).trans acted)]

theorem afterRows_ends (t : State) :
    afterRows [.patternSegmentAdvance, .patternDone, .scanLoss] t = t.advanceSegment.endPattern.scanLossReached := rfl

/-- The rows whose work completes a boundary, in their order (log 2). -/
theorem finishFrame_rows (s : State) :
    s.finishFrame
      = afterRows [.patternSegmentAdvance, .patternDone, .scanLoss]
          (allLines.foldl lineCompleted
            (afterRows
              ([.generatorGrant] ++ (allLines.flatMap fun n => [.onPhaseEnd n, .offPhaseEnd n])
                ++ allLines.flatMap fun n => [.dialTimeout n, .autoProceedExpiry n])
              s)) := by
  have acted : s.boundaryFirst.arbiterDue = false := congrArg Prod.fst (sync_boundaryFirst s)
  have phases (t : State) (n : LineId) : ((t.onPhaseEnd n).offPhaseEnd n).sync = t.sync := by simp
  have timers (t : State) (n : LineId) : ((t.dialTimeout n).autoProceedExpiry n).sync = t.sync := by simp
  have acted' := (arbiterDue_of_sync (sync_foldl _ phases allLines s.boundaryFirst)).trans acted
  have acted'' := (arbiterDue_of_sync (sync_foldl _ timers allLines _)).trans acted'
  rw [afterRows_append, afterRows_append, afterRows_cons [] (exec_generatorGrant s), afterRows_nil,
    afterRows_flatMap _ _ afterRows_phaseEnds phases _ _ acted,
    afterRows_flatMap _ _ afterRows_callTimers timers _ _ acted', ← foldl_finishLine_eq _ _ acted'', afterRows_ends]
  rfl

/-! ## The samples of a frame -/

/-- The remaining samples of a phase run down by one. -/
theorem frameSample_eq (l : Line) :
    l.frameSample
      = { l with es := { l.es with
          remaining := if l.es.emission = .toneOn ∨ l.es.emission = .toneOff then l.es.remaining - 1 else l.es.remaining } } := by
  obtain ⟨ls, pd, pt, ds, npw, ⟨gate, timer, emission, remaining, generator⟩, lat, mu, due⟩ := l
  cases emission <;> rfl

theorem line_ofFn (s : State) (f : LineId → Line) (n : LineId) : { s with lines := Vector.ofFn f }.line n = f n := by
  simp [State.line]

theorem lines_ext {s t : State} (same : ∀ n, s.line n = t.line n) : s.lines = t.lines :=
  Vector.ext fun i h => same ⟨i, h⟩

theorem line_placeFrame (s : State) (down up : Vector Sample 32) (n : LineId) :
    (s.placeFrame down up).line n = (s.line n).frameSample := by
  simp [State.placeFrame, State.line]

theorem gen_placeFrame (s : State) (down up : Vector Sample 32) (g : Fin 8) :
    (s.placeFrame down up).gen g = s.frameGenerator (s.gen g) := by
  simp [State.placeFrame, State.gen]

theorem sUp_placeFrame (s : State) (down up : Vector Sample 32) (n : LineId) :
    (s.placeFrame down up).sUp[n] = s.upstream (s.line n) up[n] := by
  simp [State.placeFrame, State.line]

/-! ### The rows of the upstream slot (R123) -/

section
variable {s : State} {l : Line} {voice : Sample}

theorem upstream_muted_service (out : l.lat.service = .outOfService ∨ l.lat.service = .test) : s.upstream l voice = 0 := by
  unfold State.upstream
  rcases out with out | out <;> rw [out]

theorem upstream_idle (service : l.lat.service = .inService) (stage : l.npw.stage = .idle) : s.upstream l voice = voice := by
  simp only [State.upstream, service, stage]

/-- A line in a call: its burst, silence in an off-phase, and outside a burst the voice in CONVERSATION alone. -/
theorem upstream_call (service : l.lat.service = .inService) (stage : l.npw.stage ≠ .idle) :
    s.upstream l voice
      = match l.es.emission with
        | .idle | .waitingGen => if l.npw.stage = .conversation then voice else 0
        | .toneOn => s.burstSample l
        | .toneOff => 0 := by
  unfold State.upstream State.upstream.muted
  rw [service]
  cases calling : l.npw.stage <;> cases emission : l.es.emission <;> simp_all

end

theorem frameGenerator_free {s : State} {g : Generator} (free : g.holder = none) : s.frameGenerator g = g := by
  rw [State.frameGenerator, free]

theorem frameGenerator_held {s : State} {g : Generator} {n : LineId} (held : g.holder = some n) :
    s.frameGenerator g = (if (s.line n).lat.service = .test then g.measure else g).advance := by
  rw [State.frameGenerator, held]
  dsimp only
  split <;> rfl

end Sys2Proof.Machine

namespace Sys2Proof.Machine

/-! ## The tick-driven work -/

/-- `t` differs from `s` in what a tick boundary works on at most: LS's part, the lines, playback, the watch ring, the
ports. -/
def OnlyTick (s t : State) : Prop :=
  t = { s with
    missCount := t.missCount, scanLoss := t.scanLoss, scanRequested := t.scanRequested, lines := t.lines, play := t.play
    ring := t.ring, portA := t.portA, portB := t.portB, portM := t.portM }

theorem OnlyTick.refl (s : State) : OnlyTick s s := rfl

theorem OnlyTick.trans {s t u : State} (h : OnlyTick s t) (k : OnlyTick t u) : OnlyTick s u := by
  unfold OnlyTick at h k
  rw [h] at k
  exact k

theorem OnlyLine.onlyTick {s t : State} {n : LineId} (h : OnlyLine n s t) : OnlyTick s t := by
  obtain ⟨frame, _⟩ := h
  rw [frame]
  rfl

theorem OnlyTick.deliver (s : State) (p : PortId) (e : Event) : OnlyTick s (s.deliver p e) := by cases p <;> rfl

theorem OnlyTick.scanLossReached (s : State) : OnlyTick s s.scanLossReached := by
  unfold State.scanLossReached
  split
  · exact ((OnlyTick.deliver _ _ _).trans ((OnlyTick.deliver _ _ _).trans (.deliver _ _ _))).trans rfl
  · exact .refl s

theorem OnlyTick.closeTick (s : State) : OnlyTick s s.closeTick := by
  unfold State.closeTick
  split
  · have missed : OnlyTick s s.takeMissedFrame := by
      unfold OnlyTick State.takeMissedFrame
      rfl
    exact missed.trans (.scanLossReached _)
  · exact .refl s

theorem OnlyTick.feedPattern (s : State) : OnlyTick s s.feedPattern := by
  unfold State.feedPattern
  split <;> rfl

@[simp] theorem line_scanLossReached (s : State) (n : LineId) : s.scanLossReached.line n = s.line n := by
  unfold State.scanLossReached
  split <;> rfl

/-- A missed frame takes a line's wait for the scan frame away, and nothing else of it (R9). -/
theorem line_closeTick (s : State) (n : LineId) : ∃ d, s.closeTick.line n = { s.line n with due := d } := by
  unfold State.closeTick
  split
  · have frozen : s.takeMissedFrame.line n = (s.line n).freeze := by simp [State.takeMissedFrame, State.line]
    rw [line_scanLossReached, frozen]
    unfold Line.freeze
    split
    · exact ⟨_, rfl⟩
    · exact ⟨_, rfl⟩
  · exact ⟨_, rfl⟩

/-- Playback feeds MU's test level alone (R181). -/
theorem line_feedPattern (s : State) (n : LineId) : ∃ m, s.feedPattern.line n = { s.line n with mu := m } := by
  unfold State.feedPattern
  split
  · next pl seg _ _ =>
    by_cases into : n = pl.line
    · subst into
      exact ⟨_, line_updLine_self s pl.line fun l => { l with mu := { l.mu with testLevel := some seg.level } }⟩
    · exact ⟨_, line_updLine_of_ne s (fun l => { l with mu := { l.mu with testLevel := some seg.level } }) into⟩
  · exact ⟨_, rfl⟩

/-- The timers and the sampler's fields of a line at a tick (R6, R101, R110). -/
theorem tickLine_eq (a : State) (n : LineId) (l : Line) (e : Profile) (l_eq : l = a.line n)
    (e_eq : e = if l.npw.stage = .idle then a.profiles[l.pt.profileIndex] else l.pt.snapshot) :
    a.tickLine n
      = { l with
          npw := { l.npw with
            timer :=
              if l.npw.stage = .dialling ∧ l.npw.digitSeen = true ∧ l.ds.queue = [] ∧ l.pd.inDigit = false
                  ∧ l.es.emission ≠ .toneOn ∧ l.es.emission ≠ .toneOff ∧ l.npw.held = false then
                some (l.npw.timer.getD 0 + 1)
              else none }
          es := { l.es with autoTimer := l.es.autoTimer.map (· + 1) }
          due := if l.lat.service = .test then l.due else .scan ⟨e.makeThreshold, e.breakThreshold, e.settleCount⟩ } := by
  subst l_eq
  have fields : a.samplerParams n = ⟨e.makeThreshold, e.breakThreshold, e.settleCount⟩ := by
    have entry : a.samplerEntry n = e := by
      rw [e_eq, State.samplerEntry]
      cases (a.line n).npw.stage <;> rfl
    rw [State.samplerParams, entry]
  unfold State.tickLine Line.tickAutoTimer Line.tickEndTimer
  rw [fields]
  simp only [timerRuns_iff]
  cases (a.line n).lat.service <;> simp

/-! ### The samples of the lines in TEST -/

theorem OnlyLine.sampleTestLine (n : LineId) (s : State) : OnlyLine n s (s.sampleTestLine n) := by
  unfold State.sampleTestLine
  split
  · exact .settle n s _ _
  · exact .refl n s

theorem sampleTestLine_other {s : State} {n : LineId} (other : (s.line n).lat.service ≠ .test) : s.sampleTestLine n = s :=
  if_neg other

/-- The hand of the loop state does not reach ES. -/
theorem es_hand (s : State) (n : LineId) : ((s.hand n).line n).es = (s.line n).es := by
  unfold State.hand
  dsimp only
  split
  · simp
  split
  · split <;> simp [State.seizePending]
  · split <;> simp [State.seizeAbort]
  · split <;> simp [State.breakStart]
  · split
    · simp
    · split <;> simp [State.makePendingStart]
  · split
    · simp
    · split <;> simp [State.glitchMake, State.count]

theorem es_settle (s : State) (n : LineId) (sample : Loop) (settleCount : Nat) :
    ((s.settle n sample settleCount).line n).es = (s.line n).es := by
  unfold State.settle
  dsimp only
  split
  · simp [es_hand]
  · split <;> simp [es_hand]

theorem es_sampleTestLine (s : State) (n m : LineId) : ((s.sampleTestLine m).line n).es = (s.line n).es := by
  by_cases same : n = m
  · subst same
    unfold State.sampleTestLine
    split
    · exact es_settle s n _ _
    · rfl
  · rw [(OnlyLine.sampleTestLine m s).2 n same]

/-- The samples of the lines in TEST leave the lines that are not in TEST, and ES's part of every line (R13). -/
theorem foldl_sampleTestLine (ns : List LineId) (s : State) :
    (∃ lines ring a b m, ns.foldl State.sampleTestLine s
        = { s with lines := lines, ring := ring, portA := a, portB := b, portM := m })
      ∧ (∀ n, (s.line n).lat.service ≠ .test → (ns.foldl State.sampleTestLine s).line n = s.line n)
      ∧ ∀ n, ((ns.foldl State.sampleTestLine s).line n).es = (s.line n).es := by
  induction ns generalizing s with
  | nil => exact ⟨⟨_, _, _, _, _, rfl⟩, fun _ _ => rfl, fun _ => rfl⟩
  | cons m rest ih =>
    obtain ⟨⟨lines, ring, a, b, p, frame⟩, outside, es⟩ := ih (s.sampleTestLine m)
    obtain ⟨frame', others⟩ := OnlyLine.sampleTestLine m s
    rw [List.foldl_cons]
    refine ⟨⟨lines, ring, a, b, p, by rw [frame, frame']⟩, fun n notTest => ?_, fun n => ?_⟩
    · have first : (s.sampleTestLine m).line n = s.line n := by
        by_cases same : n = m
        · subst same
          rw [sampleTestLine_other notTest]
        · exact others n same
      rw [outside n (by rwa [first]), first]
    · rw [es, es_sampleTestLine]

/-- The tick's work before the samples of the lines in TEST: playback, the timers, the scan request. -/
def ticked (s : State) : State := { s.feedPattern with lines := Vector.ofFn s.feedPattern.tickLine, scanRequested := true }

theorem line_ticked (s : State) (n : LineId) : (ticked s).line n = s.feedPattern.tickLine n :=
  line_ofFn { s.feedPattern with scanRequested := true } s.feedPattern.tickLine n

theorem tickWork_eq (s : State) : s.tickWork = allLines.foldl State.sampleTestLine (ticked s) := rfl

theorem OnlyTick.tickWork (s : State) : OnlyTick s s.tickWork := by
  rw [tickWork_eq]
  obtain ⟨⟨lines, ring, a, b, p, frame⟩, _⟩ := foldl_sampleTestLine allLines (ticked s)
  refine (OnlyTick.feedPattern s).trans ?_
  rw [frame, ticked]
  rfl

theorem scanRequested_tickWork (s : State) : s.tickWork.scanRequested = true := by
  rw [tickWork_eq]
  obtain ⟨⟨lines, ring, a, b, p, frame⟩, _⟩ := foldl_sampleTestLine allLines (ticked s)
  rw [frame, ticked]

theorem line_tickWork {s : State} {n : LineId} (notTest : (s.line n).lat.service ≠ .test) :
    s.tickWork.line n = s.feedPattern.tickLine n := by
  obtain ⟨_, outside, _⟩ := foldl_sampleTestLine allLines (ticked s)
  obtain ⟨m, fed⟩ := line_feedPattern s n
  have service : (s.feedPattern.tickLine n).lat.service = (s.line n).lat.service := by
    rw [tickLine_eq s.feedPattern n _ _ rfl rfl, fed]
  rw [tickWork_eq, outside n (by rw [line_ticked, service]; exact notTest), line_ticked]

theorem remaining_tickWork (s : State) (n : LineId) : (s.tickWork.line n).es.remaining = (s.line n).es.remaining := by
  obtain ⟨_, _, es⟩ := foldl_sampleTestLine allLines (ticked s)
  obtain ⟨m, fed⟩ := line_feedPattern s n
  rw [tickWork_eq, es n, line_ticked, tickLine_eq s.feedPattern n _ _ rfl rfl, fed]

end Sys2Proof.Machine

namespace Sys2Proof.Machine

/-! ## The frame sync -/

theorem exec_frameBoundary (down up : Vector Sample 32) (s : State) :
    exec (.frameBoundary down up) s = .next (s.frameSync down up) := rfl

theorem exec_tickBoundary (down up : Vector Sample 32) (s : State) :
    exec (.tickBoundary down up) s = .next (if s.tickNext then s.frameSync down up else s) := rfl

theorem tickNext_iff (s : State) : s.tickNext = true ↔ s.frameOpen = false ∨ s.frameCounter = 7 := by
  simp [State.tickNext]

/-- What stands once a frame has been opened after `e`: the samples placed and the generators as they were, HI's counters
moved on, the lines that joined behind those that waited (R112, R115, R131). -/
structure FrameOpened (e t : State) : Prop where
  sUp : t.sUp = e.sUp
  lDown : t.lDown = e.lDown
  gens : t.gens = e.gens
  frameOpen : t.frameOpen = true
  countersFirst : e.frameOpen = false → t.frameCounter = e.frameCounter ∧ t.timestamp = e.timestamp
  counters : e.frameOpen = true →
    t.frameCounter = e.frameCounter + 1 ∧ t.timestamp = if e.frameCounter = 7 then e.timestamp + 1 else e.timestamp
  waiting : t.waiting = e.waiting ++ e.joining
  joining : t.joining = []
  arbiterDue : t.arbiterDue = true
  remaining : ∀ n, (t.line n).es.remaining = (e.line n).es.remaining

theorem FrameOpened.openFrame (e : State) : FrameOpened e e.openFrame := by
  unfold State.openFrame State.advanceCounters
  split
  · next isOpen => exact ⟨rfl, rfl, rfl, isOpen, by simp [isOpen], fun _ => ⟨rfl, rfl⟩, rfl, rfl, rfl, fun _ => rfl⟩
  · next first => exact ⟨rfl, rfl, rfl, rfl, fun _ => ⟨rfl, rfl⟩, fun isOpen => absurd isOpen first, rfl, rfl, rfl, fun _ => rfl⟩

/-- The tick-driven work before and after the frame's opening does not reach what is opened. -/
theorem FrameOpened.withTick {d e t u : State} (before : OnlyTick d e) (opened : FrameOpened e t) (after : OnlyTick t u)
    (remaining₁ : ∀ n, (e.line n).es.remaining = (d.line n).es.remaining)
    (remaining₂ : ∀ n, (u.line n).es.remaining = (t.line n).es.remaining) : FrameOpened d u := by
  have remaining (n : LineId) := (remaining₂ n).trans ((opened.remaining n).trans (remaining₁ n))
  obtain ⟨sUp, lDown, gens, frameOpen, first, counters, waiting, joining, due, _⟩ := opened
  unfold OnlyTick at before after
  rw [before] at sUp lDown gens first counters waiting
  rw [after] at remaining ⊢
  exact ⟨sUp, lDown, gens, frameOpen, first, counters, waiting, joining, due, remaining⟩

theorem remaining_closeTick (s : State) (n : LineId) : (s.closeTick.line n).es.remaining = (s.line n).es.remaining := by
  obtain ⟨d, closed⟩ := line_closeTick s n
  rw [closed]

theorem FrameOpened.tick (e : State) : FrameOpened e e.closeTick.openFrame.tickWork :=
  .withTick (.closeTick e) (.openFrame _) (.tickWork _) (remaining_closeTick e) (remaining_tickWork _)

/-- The opening of a frame, with HI's counters as they stand in a later state. -/
theorem openFrame_eq {x t : State} (counter : t.frameCounter = x.openFrame.frameCounter)
    (time : t.timestamp = x.openFrame.timestamp) :
    x.openFrame
      = { x with
          frameCounter := t.frameCounter, timestamp := t.timestamp, frameOpen := true
          waiting := x.waiting ++ x.joining, joining := [], arbiterDue := true } := by
  rw [counter, time]
  unfold State.openFrame State.advanceCounters
  split
  · next isOpen => rw [← isOpen]
  · rfl

theorem hi_finishFrame (s : State) :
    s.finishFrame.frameOpen = s.frameOpen ∧ s.finishFrame.frameCounter = s.frameCounter
      ∧ s.finishFrame.timestamp = s.timestamp ∧ s.finishFrame.sUp = s.sUp ∧ s.finishFrame.lDown = s.lDown := by
  have same := sync_finishFrame s
  simp only [State.sync, Prod.mk.injEq] at same
  exact same.2

/-! ### The frame sync, from the state `v` in which the frame's work is complete -/

/-- The samples of the frame that ends are placed, when one is open (R131). -/
def placed (v : State) (down up : Vector Sample 32) : State := if v.frameOpen then v.placeFrame down up else v

/-- The frame ends and the next one opens. -/
def synced (v : State) (down up : Vector Sample 32) : State :=
  if (placed v down up).tickNext then (placed v down up).closeTick.openFrame.tickWork else (placed v down up).openFrame

theorem frameSync_eq_synced (s : State) (down up : Vector Sample 32) :
    s.frameSync down up = synced s.finishFrame down up := by
  rw [State.frameSync, State.endFrame, synced, placed]

section
variable {v : State} (down up : Vector Sample 32)

theorem placed_open (isOpen : v.frameOpen = true) : placed v down up = v.placeFrame down up := if_pos isOpen

theorem placed_first (first : v.frameOpen = false) : placed v down up = v := if_neg (by simp [first])

variable (v)

/-- Placing the samples writes the slots, the generators and the lines. -/
theorem placed_frame :
    ∃ sUp lDown gens lines, placed v down up = { v with sUp := sUp, lDown := lDown, gens := gens, lines := lines } := by
  unfold placed State.placeFrame
  split <;> exact ⟨_, _, _, _, rfl⟩

theorem tickNext_placed : (placed v down up).tickNext = v.tickNext := by
  obtain ⟨_, _, _, _, frame⟩ := placed_frame v down up
  rw [frame]
  rfl

/-- Of a line, the end of a frame writes the remaining samples of its phase (R116, R119). -/
theorem line_placed (n : LineId) :
    (placed v down up).line n
      = { v.line n with
          es := { (v.line n).es with
            remaining :=
              if v.frameOpen = true ∧ ((v.line n).es.emission = .toneOn ∨ (v.line n).es.emission = .toneOff) then
                (v.line n).es.remaining - 1
              else (v.line n).es.remaining } } := by
  cases isOpen : v.frameOpen with
  | false => simp [placed_first down up isOpen]
  | true => simp [placed_open down up isOpen, line_placeFrame, frameSample_eq]

variable {v}

theorem synced_tick (tick : v.frameOpen = false ∨ v.frameCounter = 7) :
    synced v down up = (placed v down up).closeTick.openFrame.tickWork :=
  if_pos ((tickNext_placed v down up).trans ((tickNext_iff v).mpr tick))

theorem synced_inTick (isOpen : v.frameOpen = true) (within : v.frameCounter ≠ 7) :
    synced v down up = (placed v down up).openFrame :=
  if_neg (by rw [tickNext_placed, tickNext_iff]; exact not_or.mpr ⟨by simp [isOpen], within⟩)

variable (v)

theorem FrameOpened.synced : FrameOpened (placed v down up) (synced v down up) := by
  by_cases tick : v.frameOpen = false ∨ v.frameCounter = 7
  · rw [synced_tick down up tick]
    exact .tick _
  · obtain ⟨isOpen, within⟩ := not_or.mp tick
    rw [synced_inTick down up (by simpa using isOpen) within]
    exact .openFrame _

end

end Sys2Proof.Machine

namespace Sys2Proof.Machine

section
variable {v : State} (down up : Vector Sample 32)

/-! ### The samples that a frame leaves -/

theorem sUp_synced (isOpen : v.frameOpen = true) (n : LineId) :
    (synced v down up).sUp[n] = v.upstream (v.line n) up[n] := by
  rw [(FrameOpened.synced v down up).sUp, placed_open down up isOpen, sUp_placeFrame]

theorem lDown_synced (isOpen : v.frameOpen = true) : (synced v down up).lDown = down := by
  rw [(FrameOpened.synced v down up).lDown, placed_open down up isOpen, State.placeFrame]

theorem gen_synced (isOpen : v.frameOpen = true) (g : Fin 8) : (synced v down up).gen g = v.frameGenerator (v.gen g) := by
  have gens : (synced v down up).gen g = (placed v down up).gen g :=
    congrArg (·[g]) (FrameOpened.synced v down up).gens
  rw [gens, placed_open down up isOpen, gen_placeFrame]

theorem remaining_synced (isOpen : v.frameOpen = true) (n : LineId) :
    ((synced v down up).line n).es.remaining
      = if (v.line n).es.emission = .toneOn ∨ (v.line n).es.emission = .toneOff then (v.line n).es.remaining - 1
        else (v.line n).es.remaining := by
  rw [(FrameOpened.synced v down up).remaining, line_placed]
  simp only [isOpen, true_and]

/-- The first frame sync after power-on reset places no samples and moves no counter (R131). -/
theorem hi_synced_first (first : v.frameOpen = false) :
    (synced v down up).sUp = v.sUp ∧ (synced v down up).lDown = v.lDown
      ∧ (synced v down up).frameCounter = v.frameCounter ∧ (synced v down up).timestamp = v.timestamp := by
  have opened := FrameOpened.synced v down up
  rw [placed_first down up first] at opened
  exact ⟨opened.sUp, opened.lDown, opened.countersFirst first⟩

theorem hi_placed : (placed v down up).frameOpen = v.frameOpen ∧ (placed v down up).frameCounter = v.frameCounter
    ∧ (placed v down up).timestamp = v.timestamp := by
  obtain ⟨_, _, _, _, frame⟩ := placed_frame v down up
  rw [frame]
  exact ⟨rfl, rfl, rfl⟩

theorem counters_synced (isOpen : v.frameOpen = true) :
    (synced v down up).frameCounter = v.frameCounter + 1
      ∧ (synced v down up).timestamp = if v.frameCounter = 7 then v.timestamp + 1 else v.timestamp := by
  obtain ⟨frameOpen, frameCounter, timestamp⟩ := hi_placed (v := v) down up
  have moved := (FrameOpened.synced v down up).counters (frameOpen.trans isOpen)
  rwa [frameCounter, timestamp] at moved

theorem waiting_synced : (synced v down up).waiting = v.waiting ++ v.joining := by
  have opened := FrameOpened.synced v down up
  obtain ⟨_, _, _, _, frame⟩ := placed_frame v down up
  rw [opened.waiting, frame]

/-! ### A line at a tick -/

theorem line_openFrame (s : State) (n : LineId) : s.openFrame.line n = s.line n := by
  unfold State.openFrame State.advanceCounters
  split <;> rfl

theorem profiles_openFrame (s : State) : s.openFrame.profiles = s.profiles := by
  unfold State.openFrame State.advanceCounters
  split <;> rfl

theorem OnlyTick.profiles {s t : State} (h : OnlyTick s t) : t.profiles = s.profiles := by
  unfold OnlyTick at h
  rw [h]

/-- A line when the tick's work opens: its samples have run down, and a scan frame may have been missed. -/
theorem line_tickOpened (n : LineId) :
    ∃ k d, (placed v down up).closeTick.openFrame.line n
      = { v.line n with es := { (v.line n).es with remaining := k }, due := d } := by
  obtain ⟨d, closed⟩ := line_closeTick (placed v down up) n
  rw [line_openFrame, closed, line_placed]
  exact ⟨_, d, rfl⟩

theorem profiles_tickOpened : (placed v down up).closeTick.openFrame.feedPattern.profiles = v.profiles := by
  obtain ⟨_, _, _, _, frame⟩ := placed_frame v down up
  rw [(OnlyTick.feedPattern _).profiles, profiles_openFrame, (OnlyTick.closeTick _).profiles, frame]

/-- The timers and the sampler's fields at a tick, for a line that is not in TEST (R6, R101, R110). -/
theorem line_synced_tick (tick : v.frameOpen = false ∨ v.frameCounter = 7) (n : LineId) (l : Line) (e : Profile)
    (l_eq : l = v.line n) (notTest : l.lat.service ≠ .test)
    (e_eq : e = if l.npw.stage = .idle then v.profiles[l.pt.profileIndex] else l.pt.snapshot) :
    ((synced v down up).line n).npw.timer
        = (if l.npw.stage = .dialling ∧ l.npw.digitSeen = true ∧ l.ds.queue = [] ∧ l.pd.inDigit = false
            ∧ l.es.emission ≠ .toneOn ∧ l.es.emission ≠ .toneOff ∧ l.npw.held = false then
            some (l.npw.timer.getD 0 + 1)
          else none)
      ∧ ((synced v down up).line n).es.autoTimer = l.es.autoTimer.map (· + 1)
      ∧ ((synced v down up).line n).due = .scan ⟨e.makeThreshold, e.breakThreshold, e.settleCount⟩ := by
  subst l_eq
  obtain ⟨k, d, open_⟩ := line_tickOpened (v := v) down up n
  obtain ⟨m, fed⟩ := line_feedPattern (placed v down up).closeTick.openFrame n
  rw [synced_tick down up tick, line_tickWork (by rw [open_]; exact notTest),
    tickLine_eq _ n _ e fed.symm (by rw [profiles_tickOpened, open_]; exact e_eq), open_]
  exact ⟨rfl, rfl, if_neg notTest⟩

/-! ### The state that a frame sync leaves, field by field -/

/-- The end of a frame, from what the frame sync leaves in the slots and the generators. -/
theorem placed_eq :
    placed v down up
      = { v with
          sUp := (synced v down up).sUp, lDown := (synced v down up).lDown, gens := (synced v down up).gens
          lines := Vector.ofFn fun n =>
            { v.line n with
              es := { (v.line n).es with
                remaining :=
                  if v.frameOpen = true ∧ ((v.line n).es.emission = .toneOn ∨ (v.line n).es.emission = .toneOff) then
                    (v.line n).es.remaining - 1
                  else (v.line n).es.remaining } } } := by
  have opened := FrameOpened.synced v down up
  have line := line_placed v down up
  obtain ⟨sUp, lDown, gens, lines, frame⟩ := placed_frame v down up
  have sUp_eq : (synced v down up).sUp = sUp := by rw [opened.sUp, frame]
  have lDown_eq : (synced v down up).lDown = lDown := by rw [opened.lDown, frame]
  have gens_eq : (synced v down up).gens = gens := by rw [opened.gens, frame]
  rw [sUp_eq, lDown_eq, gens_eq]
  rw [frame] at line
  refine frame.trans (congrArg (fun ls : Vector Line 32 =>
    { v with sUp := sUp, lDown := lDown, gens := gens, lines := ls }) ?_)
  refine Vector.ext fun i small => ?_
  rw [Vector.getElem_ofFn]
  exact line ⟨i, small⟩

theorem OnlyTick.counters {s t : State} (h : OnlyTick s t) : t.frameCounter = s.frameCounter ∧ t.timestamp = s.timestamp := by
  unfold OnlyTick at h
  rw [h]
  exact ⟨rfl, rfl⟩

theorem waiting_of_onlyTick_placed {x : State} (kept : OnlyTick (placed v down up) x) :
    x.waiting = v.waiting ∧ x.joining = v.joining := by
  obtain ⟨_, _, _, _, frame⟩ := placed_frame v down up
  unfold OnlyTick at kept
  rw [kept, frame]
  exact ⟨rfl, rfl⟩

/-- The next frame, opened behind the end of the old one and what a tick boundary does to it. -/
theorem openFrame_behind_placed {x t : State} (kept : OnlyTick (placed v down up) x)
    (counter : t.frameCounter = x.openFrame.frameCounter) (time : t.timestamp = x.openFrame.timestamp) :
    x.openFrame
      = { x with
          frameCounter := t.frameCounter, timestamp := t.timestamp, frameOpen := true
          waiting := v.waiting ++ v.joining, joining := [], arbiterDue := true } := by
  obtain ⟨waiting, joining⟩ := waiting_of_onlyTick_placed down up kept
  rw [← waiting, ← joining]
  exact openFrame_eq counter time

end

/-- Settles O52: the parts of the frame sync above, in the order of the statement. -/
theorem frameSyncPlacesSamplesAndCounts : Obligations.FrameSyncPlacesSamplesAndCounts := by
  unfold Obligations.FrameSyncPlacesSamplesAndCounts
  intro down up s v v_eq
  have rows := finishFrame_rows s
  have sync := frameSync_eq_synced s down up
  have next := tickNext_iff s
  obtain ⟨frameOpen, frameCounter, timestamp, sUp, lDown⟩ := hi_finishFrame s
  rw [← v_eq] at rows sync frameOpen frameCounter timestamp sUp lDown
  rw [← frameOpen, ← frameCounter] at next
  rw [← frameOpen, ← frameCounter, ← timestamp, ← sUp, ← lDown]
  have opened := FrameOpened.synced v down up
  refine ⟨synced v down up, ?row, fun isOpen => ⟨lDown_synced down up isOpen, ?slots⟩, hi_synced_first down up,
    counters_synced down up, fun isOpen => ⟨remaining_synced down up isOpen, ?free, ?held⟩, opened.frameOpen,
    waiting_synced down up, opened.joining, opened.arbiterDue, fun tick => ⟨?tickRow, ?requested, ?lines⟩, ?notTick, rows,
    ?whole, tickLine_eq⟩
  case row => rw [exec_frameBoundary, sync]
  case slots =>
    intro n l l_eq
    rw [sUp_synced down up isOpen, ← l_eq]
    refine ⟨upstream_muted_service, fun service => ⟨upstream_idle service, fun calling => ?_⟩⟩
    rw [upstream_call service calling]
    refine ⟨fun g burst holds => ?_, fun silence => ?_, fun outside => ⟨fun talking => ?_, fun muted => ?_⟩⟩
    · rw [burst, State.burstSample, holds]
    · rw [silence]
    · rcases outside with outside | outside <;> rw [outside] <;> exact if_pos talking
    · rcases outside with outside | outside <;> rw [outside] <;> exact if_neg muted
  case free =>
    intro g free
    rw [gen_synced down up isOpen, frameGenerator_free free]
  case held =>
    intro g n held
    rw [gen_synced down up isOpen, frameGenerator_held held]
  case tickRow => rw [exec_tickBoundary, if_pos (next.mpr tick), sync]
  case requested => rw [synced_tick down up tick, scanRequested_tickWork]
  case lines =>
    intro n l e l_eq notTest e_eq
    exact line_synced_tick down up tick n l e l_eq notTest e_eq
  case notTick =>
    intro isOpen within
    rw [exec_tickBoundary, if_neg]
    rw [next]
    exact not_or.mpr ⟨by simp [isOpen], within⟩
  case whole =>
    intro p r p_eq r_eq
    rw [← placed_eq] at p_eq
    subst p_eq
    refine ⟨fun isOpen within => ?_, fun tick => ?_⟩
    · have inTick := synced_inTick down up isOpen within
      rw [if_neg (not_or.mpr ⟨by simp [isOpen], within⟩)] at r_eq
      rw [r_eq]
      exact inTick.trans (openFrame_behind_placed down up (.refl _) (congrArg State.frameCounter inTick)
        (congrArg State.timestamp inTick))
    · have atTick := synced_tick down up tick
      obtain ⟨counter, time⟩ := (OnlyTick.tickWork (placed v down up).closeTick.openFrame).counters
      rw [if_pos tick] at r_eq
      have opens : r = (placed v down up).closeTick.openFrame :=
        r_eq.trans (openFrame_behind_placed down up (.closeTick _) (by rw [atTick, counter]) (by rw [atTick, time])).symm
      rw [opens]
      exact atTick.trans (tickWork_eq _)

end Sys2Proof.Machine
